-- ==== Sys2Proof/Word.lean ====
section
/-! DEFINITION. The number types of the GD-440's interface: the 32-bit word, the address fields of
Table 1-1 and the place of a changed bit in a line. -/

namespace Sys2Proof

/-- A word of the register window or of a line: 32 bits, bit 0 least significant (00_scope, 1.8). -/
abbrev Word := BitVec 32

/-- Bank 0–7 (Table 1-1). -/
abbrev Bank := Fin 8

/-- Logical row 0–8191 of a bank, as host software names it (Table 1-1). -/
abbrev LogicalRow := Fin 8192

/-- Physical row 0–8207 of a bank: 0–8191 regular, 8192 + s is spare s (R1). -/
abbrev PhysRow := Fin 8208

/-- Line 0–31 of a row (Table 1-1). -/
abbrev LineNo := Fin 32

/-- Data word 0–7 of a line (Table 1-1). -/
abbrev WordIdx := Fin 8

/-- Spare index 0–15 of a bank (Table 1-1). -/
abbrev SpareIdx := Fin 16

/-- One of the four line buffers (3.4). -/
abbrev BufferIdx := Fin 4

/-- The eight data words of a line or of a line buffer. -/
abbrev LineWords := Vector Word 8

/-- Eight zero words. -/
def LineWords.zero : LineWords := Vector.replicate 8 0#32

/-- Where a stored bit of a line lies (R3): in a data word, or in the check information. -/
inductive BitPos where
  | word (index : WordIdx) (bit : Fin 32)
  | check
  deriving DecidableEq, Repr

/-- The physical row of regular row L (R1). -/
def LogicalRow.regular (l : LogicalRow) : PhysRow := ⟨l.val, by omega⟩

/-- The physical row of spare s: 8192 + s (R1). -/
def SpareIdx.physical (i : SpareIdx) : PhysRow := ⟨8192 + i.val, by omega⟩

/-- The spare index of a physical row, if it is a spare (R1). -/
def PhysRow.spare? (p : PhysRow) : Option SpareIdx :=
  if h : 8192 ≤ p.val then some ⟨p.val - 8192, by omega⟩ else none

/-- The logical row number of a physical row, if it is a regular row (R1). -/
def PhysRow.regular? (p : PhysRow) : Option LogicalRow :=
  if h : p.val < 8192 then some ⟨p.val, h⟩ else none

end Sys2Proof
end

