-- ==== Sys2Proof/Syntax.lean ====
section
/-! DEFINITION. The commands of the block: one constructor for each row of spec/opcode_table.json, in the
table's order, with the operands the row's rule gives the happening. -/

namespace Sys2Proof

/-- The steps of the part. A bank operation's row is the END of that operation on the bank it names. -/
inductive Instr where
  /-- POWER_ON (R164). -/
  | powerOn
  /-- POWER_LOSS (R2). -/
  | powerLoss
  /-- RST_ASSERT (R166, R167): an assertion of RST that the part takes. -/
  | rstAssert
  /-- RST_RELEASE (R166, R167). -/
  | rstRelease
  /-- BIT_CHANGE (R3): the stored bit at `pos` of the line changes. -/
  | bitChange (bank : Bank) (row : PhysRow) (line : LineNo) (pos : BitPos)
  /-- LOADING_END (R160). -/
  | loadingEnd
  /-- ARRAY_INIT_END (R164). -/
  | arrayInitEnd
  /-- RESTARTING_END (R167). -/
  | restartingEnd
  /-- REFRESH_TIMER_EXPIRY (R24). -/
  | refreshTimerExpiry
  /-- STEP_TIMER_EXPIRY (R140). -/
  | stepTimerExpiry
  /-- READ_LINE (R13): the end of the READ LINE in progress on the bank. -/
  | readLine (bank : Bank)
  /-- WRITE_LINE (R14): the end of the WRITE LINE in progress on the bank. -/
  | writeLine (bank : Bank)
  /-- MERGE_LINE (R15): the end of the MERGE LINE in progress on the bank. -/
  | mergeLine (bank : Bank)
  /-- SCRUB_LINE (R16): the end of the SCRUB LINE in progress on the bank. -/
  | scrubLine (bank : Bank)
  /-- COPY_LINE (R17, R18): the end of the COPY LINE in progress on the bank; `struck` lists the bits
  of the target line that changed (R3) between its write and its verify read. -/
  | copyLine (bank : Bank) (struck : List BitPos)
  /-- CLEAR_LINE (R19): the end of the CLEAR LINE in progress on the bank. -/
  | clearLine (bank : Bank)
  /-- REFRESH (R20): the end of the REFRESH in progress on the bank. -/
  | refresh (bank : Bank)
  /-- DISPATCH (R62). -/
  | dispatch
  /-- COPY_REQUEST_PLACE (R105). -/
  | copyRequestPlace
  /-- AUTO_SELECTION (R103). -/
  | autoSelection
  /-- CLEAR_LINE_PLACE (R176). -/
  | clearLinePlace
  /-- BURN_ATTEMPT_END (R156): `passed` says whether the slot's cells pass the verify (R154). -/
  | burnAttemptEnd (passed : Bool)
  /-- RETENTION_EXIT_END (R182). -/
  | retentionExitEnd
  /-- SUBMIT (R46): a write of `w` to REQ_B. -/
  | submit (w : Word)
  /-- BUF_DATA_READ (R56): a read of BUF_DATA. -/
  | bufDataRead
  /-- BUF_DATA_WRITE (R57): a write of `w` to BUF_DATA. -/
  | bufDataWrite (w : Word)
  /-- CPL_POP (R76): a write of `w` to CPL_POP. -/
  | cplPop (w : Word)
  /-- UER_POP (R192): a write of `w` to UER_POP. -/
  | uerPop (w : Word)
  /-- FRT_ENTRY_A_READ (R134): a read of FRT_ENTRY_A. -/
  | frtEntryARead
  /-- EVT_ACK (R187): a write of `w` to EVT_ACK. -/
  | evtAck (w : Word)
  /-- EVT_MASK (R188): a write of `w` to EVT_MASK. -/
  | evtMask (w : Word)
  /-- HPT_CONFIG (R168): a write of `w` to HPT_CONFIG. -/
  | hptConfig (w : Word)
  /-- PTL_INTERVAL (R139): a write of `w` to PTL_INTERVAL. -/
  | ptlInterval (w : Word)
  /-- REGISTER_WRITE (R194): a write of `w` at byte offset `offset`, of a register without a row of its own. -/
  | registerWrite (offset : BitVec 8) (w : Word)
  /-- CLEAR_BANK (R175): an MNT_CMD write with code 1. -/
  | clearBank
  /-- MIGRATE_ROW (R173): an MNT_CMD write with code 2. -/
  | migrateRow
  /-- ABORT_MIGRATION (R114): an MNT_CMD write with code 3. -/
  | abortMigration
  /-- BURN_ROW (R153): an MNT_CMD write with code 4. -/
  | burnRow
  /-- HOLD (R178): an MNT_CMD write with code 5. -/
  | hold
  /-- RELEASE (R179): an MNT_CMD write with code 6. -/
  | release
  /-- ENTER_RETENTION (R180): an MNT_CMD write with code 7. -/
  | enterRetention
  /-- EXIT_RETENTION (R182): an MNT_CMD write with code 8. -/
  | exitRetention
  /-- DROP_RECORD (R132): an MNT_CMD write with code 9. -/
  | dropRecord
  /-- RESTART_PATROL (R147): an MNT_CMD write with code 10. -/
  | restartPatrol
  /-- BAD_COMMAND (R171): an MNT_CMD write with a code that names no command. -/
  | badCommand (code : BitVec 8)
  deriving DecidableEq, Repr

end Sys2Proof
end

