-- ==== Sys2Proof/Config.lean ====
section
/-! DEFINITION. The check outcomes, and the values the specification leaves open: each is a constant
without a body, so no proof can see what it is. -/

namespace Sys2Proof

/-- The classification of one line read (R4); CORRECTED carries the corrected word index 0–8. -/
inductive CheckOutcome where
  | clean
  | corrected (index : Fin 9)
  | uncorrectable
  | poisoned
  deriving DecidableEq, Repr, Inhabited

/-- What a DATA line with three or more changed bits may read (R4). -/
inductive ManyBitOutcome where
  | clean
  | corrected
  | uncorrectable
  deriving DecidableEq, Repr, Inhabited

/-- Free value (R4, Table 1-3): how a DATA line with three or more changed bits reads, by the positions of
the changed bits: the argument says how many changes stand at each. -/
opaque Config.manyBitOutcome : (BitPos → Nat) → ManyBitOutcome

/-- Free value (R5): where that line reads CORRECTED, the index that the n-th line read yields and the bit
that it inverts; the specification leaves both open. -/
opaque Config.miscorrection : Nat → (BitPos → Nat) → Fin 9 × Fin 32

/-- Free value (R4, Table 1-3): the outcome of the n-th line read where the line is UNKNOWN. -/
opaque Config.unknownOutcome : Nat → CheckOutcome

/-- Free value (R4): the delivered words of the n-th line read where the line is UNKNOWN. -/
opaque Config.unknownWords : Nat → LineWords

/-- Free value (R2, R5): the stored data words that the n-th line read delivers from a POISON line with
two or more changed bits; the specification does not say what data bits a poison marker holds. -/
opaque Config.poisonStoredWords : Nat → LineWords

end Sys2Proof
end

