-- ==== Sys2Proof/Machine/State.lean ====
section
/-! DEFINITION. The state of the GD-440, block by block (Table 0-1), its stops, and the state right after
power-on. -/

namespace Sys2Proof.Machine

/-! ### The array (Chapter 1) -/

/-- The written form of a line (Table 1-2). -/
inductive LineForm where
  | data (words : LineWords)
  | poison
  | unknown
  deriving DecidableEq, Repr

/-- A physical line: its written form and the bits that have changed since it was written (R2, R3). -/
structure LineCell where
  form : LineForm
  changes : List BitPos
  deriving DecidableEq, Repr

/-- What an unlisted line holds: UNKNOWN, no bit changed, as every line does at power-on (R2). -/
def LineCell.unlisted : LineCell := ⟨.unknown, []⟩

/-- The array as a list of (line number, line) pairs in canonical form: numbers strictly rising, no pair
equal to an unlisted line. -/
abbrev Memory := List (Nat × LineCell)

/-- The canonical form of the array. -/
def Memory.wf : Memory → Bool
  | [] => true
  | (a, c) :: rest => c != .unlisted && rest.all (fun e => decide (a < e.1)) && Memory.wf rest

/-! ### Host port, power and reset input (Chapter 9) -/

/-- The sub-phase of STARTING (R163). -/
inductive StartPhase where
  | loading
  | arrayInit
  deriving DecidableEq, Repr

/-- The controller state (Table 9-3); the sub-phase is present only in STARTING. -/
inductive ControllerState where
  | starting (phase : StartPhase)
  | heldInReset
  | restarting
  | ready
  | enteringRetention
  | retained
  | leavingRetention
  deriving DecidableEq, Repr

/-- HPT: the controller state and the configuration (R163, R168). -/
structure HostPort where
  state : ControllerState
  threshold : Fin 16
  autoMigrate : Bool
  deriving DecidableEq, Repr

/-! ### Requests, buffers, completions (Chapters 3 and 4) -/

/-- The kind of a held request (Table 3-1); the word mask is present only for WRITE. -/
inductive RequestKind where
  | read
  | write (mask : BitVec 8)
  deriving DecidableEq, Repr

/-- The fields of a request that do not change while it is held (R44). -/
structure Request where
  tag : BitVec 8
  kind : RequestKind
  bank : Bank
  row : LogicalRow
  line : LineNo
  buffer : BufferIdx
  deriving DecidableEq, Repr

/-- The state of a held request (Table 3-1). -/
inductive RequestState where
  | waiting
  | inFlight
  deriving DecidableEq, Repr

/-- A held request; its position is its place in the collection. -/
structure HeldRequest where
  request : Request
  state : RequestState
  deriving DecidableEq, Repr

/-- The result of a submit (Table 3-2, R52). -/
inductive SubmitResult where
  | none
  | accepted
  | notReady
  | queueFull
  | badKind
  | badRow
  | emptyMask
  | duplicateTag
  | bufferBusy
  deriving DecidableEq, Repr

/-- The REQ_A latch (R45). -/
structure RequestLatch where
  tag : BitVec 8
  kindCode : BitVec 2
  buffer : BufferIdx
  mask : BitVec 8
  deriving DecidableEq, Repr

/-- REQ: the collection, oldest first, the latch, and what REQ_RESULT shows (R44, R45, R52). -/
structure RequestQueue where
  held : List HeldRequest
  latch : RequestLatch
  result : SubmitResult
  resultTag : BitVec 8
  deriving DecidableEq, Repr

/-- The state of a line buffer (Table 3-3). -/
inductive BufferState where
  | host
  | locked
  deriving DecidableEq, Repr

/-- A line buffer (Table 3-3). -/
structure LineBuffer where
  state : BufferState
  words : LineWords
  deriving DecidableEq, Repr

/-- BUF: the four buffers and the buffer window (Tables 3-3 and 3-4). -/
structure Buffers where
  lines : Vector LineBuffer 4
  selected : BufferIdx
  index : WordIdx
  deriving DecidableEq, Repr

/-- The outcome of a completed request (Table 4-4), with the corrected word index where it is present. -/
inductive HostOutcome where
  | ok
  | corrected (index : Fin 9)
  | uncorrectable
  | poisoned
  | merged
  | mergeCorrected (index : Fin 9)
  | dataLost
  | notFormatted
  deriving DecidableEq, Repr

/-- READ or WRITE, as a completion record shows the kind (R73). -/
inductive RecordKind where
  | read
  | write
  deriving DecidableEq, Repr

/-- A completion record (Table 4-4). -/
structure Completion where
  tag : BitVec 8
  kind : RecordKind
  outcome : HostOutcome
  fromSpare : Bool
  buffer : BufferIdx
  deriving DecidableEq, Repr

/-! ### Bank sequencer (Chapter 2) -/

/-- The rows fixed for an operation at its grant (R9, R10): the row it reads, which is also its first
write row, and the target row where translation names one. -/
structure Rows where
  source : PhysRow
  target : Option PhysRow
  deriving DecidableEq, Repr

/-- The operation in progress, with all that its grant fixed (R9, R29, R30, R31, R69). -/
inductive Operation where
  | readLine (request : Request) (rows : Rows) (fromSpare : Bool)
  | writeLine (request : Request) (rows : Rows) (fromSpare : Bool) (words : LineWords)
  | mergeLine (request : Request) (rows : Rows) (fromSpare : Bool) (mask : BitVec 8) (words : LineWords)
  | scrubLine (rows : Rows) (line : LineNo) (logical : LogicalRow)
  | copyLine (logical : LogicalRow) (source : PhysRow) (target : SpareIdx) (line : LineNo)
  | clearLine (row : PhysRow) (line : LineNo)
  | refresh
  deriving DecidableEq, Repr

/-- The result disposition of an operation in progress (Table 2-1). -/
inductive Disposition where
  | deliver
  | discard
  deriving DecidableEq, Repr

/-- The phase of a bank (Table 2-1). -/
inductive Phase where
  | idle
  | busy (operation : Operation) (disposition : Disposition)
  | retained
  deriving DecidableEq, Repr

/-- The condition of a bank (R22). -/
inductive Condition where
  | unformatted
  | clearing
  | formatted
  deriving DecidableEq, Repr

/-- A physical row and line of one bank: a scrub step, or a line to clear. -/
structure RowLine where
  row : PhysRow
  line : LineNo
  deriving DecidableEq, Repr

/-- The section of the bank sequencer that belongs to one bank (Table 2-1). -/
structure BankSection where
  phase : Phase
  condition : Condition
  debt : Fin 9
  hostSlot : Option Request
  migrationSlot : Bool
  patrolSlot : Option RowLine
  clearSlot : Option RowLine
  migrationAge : Fin 17
  patrolAge : Fin 65
  deriving DecidableEq, Repr

/-- RUNNING or STOPPED (R24). -/
inductive TimerState where
  | running
  | stopped
  deriving DecidableEq, Repr

/-! ### Remap table and spares (Chapter 5) -/

/-- The state of a spare (R81). -/
inductive SpareState where
  | free
  | target
  | inUse
  | retired
  deriving DecidableEq, Repr

/-- The origin of a remap entry (R83). -/
inductive Origin where
  | volatile
  | persistent
  deriving DecidableEq, Repr

/-- The state of a remap entry with the fields present in it (Table 5-1). -/
inductive EntryState where
  | active (current : SpareIdx)
  | pending (current : Option SpareIdx) (target : SpareIdx) (cursor : LineNo) (restarts : Fin 4)
  deriving DecidableEq, Repr

/-- A remap entry of a bank, keyed by logical row (R80). -/
structure RemapEntry where
  row : LogicalRow
  state : EntryState
  origin : Origin
  deriving DecidableEq, Repr

/-- The remap entries and the spare states of one bank (R80, R81). -/
structure BankRemap where
  entries : List RemapEntry
  spares : Vector SpareState 16
  deriving DecidableEq, Repr

/-- RMP: the table and spares of each bank, and RMP_SELECT (R96). -/
structure RemapTable where
  banks : Vector BankRemap 8
  selectBank : Bank
  selectRow : LogicalRow
  deriving DecidableEq, Repr

/-! ### Migration engine (Chapter 6) -/

/-- The copy request of a COPYING engine (Table 6-1); the two pending marks are present only in RUNNING. -/
inductive CopyRequest where
  | absent
  | waiting
  | running (parkPending abortPending : Bool)
  deriving DecidableEq, Repr

/-- The state of the engine with the fields present in it (Table 6-1). -/
inductive EngineState where
  | idle
  | copying (bank : Bank) (row : LogicalRow) (copy : CopyRequest)
  | parked (bank : Bank) (row : LogicalRow)
  deriving DecidableEq, Repr

/-- The outcome of a migration that ended (Table 6-1). -/
inductive MigrationOutcome where
  | committed
  | aborted
  | failedRestarts
  | failedNoSpare
  deriving DecidableEq, Repr

/-- The most recent migration to end (Table 6-1); absent while the last outcome is NONE. -/
structure LastMigration where
  outcome : MigrationOutcome
  bank : Bank
  row : LogicalRow
  restarts : Fin 4
  deriving DecidableEq, Repr

/-- MIG (Table 6-1). -/
structure Engine where
  state : EngineState
  last : Option LastMigration
  deriving DecidableEq, Repr

/-! ### Fault records (Chapter 7) -/

/-- The state of a fault record (R123). -/
inductive RecordState where
  | watch
  | candidate
  | migrating
  | stuck
  deriving DecidableEq, Repr

/-- A fault record (Table 7-1). -/
structure FaultRecord where
  bank : Bank
  row : PhysRow
  logical : Option LogicalRow
  correctable : Fin 256
  uncorrectable : Fin 256
  lastLine : LineNo
  firstPass : BitVec 16
  lastPass : BitVec 16
  state : RecordState
  deriving DecidableEq, Repr

/-- FRT: the slots, the candidate queue from its head, FRT_SELECT and the two holding words (R122, R129, R134). -/
structure FaultTable where
  slots : Vector (Option FaultRecord) 32
  queue : List (Fin 32)
  select : Fin 32
  holdB : Word
  holdC : Word
  deriving DecidableEq, Repr

/-! ### Patrol (Chapter 8) -/

/-- A position of the array (R138). -/
structure Position where
  row : PhysRow
  bank : Bank
  line : LineNo
  deriving DecidableEq, Repr

/-- The first position (R138). -/
def Position.start : Position := ⟨0, 0, 0⟩

/-- The outstanding step, with its position and, when RUNNING, the restarted mark (Table 8-1). -/
inductive PatrolStep where
  | none
  | waiting (position : Position)
  | running (position : Position) (restarted : Bool)
  deriving DecidableEq, Repr

/-- PTL (Table 8-1); the timer is RUNNING exactly while the interval is not 0, so it is not stored. -/
structure Patrol where
  interval : BitVec 16
  cursor : Position
  step : PatrolStep
  pass : BitVec 16
  deriving DecidableEq, Repr

/-! ### Repair store (Chapter 9) -/

/-- A slot of the repair store (Table 9-1). -/
inductive StoreSlot where
  | blank
  | written (bank : Bank) (row : LogicalRow) (spare : SpareIdx)
  | bad
  deriving DecidableEq, Repr

/-- A burn in progress (Table 9-2). -/
structure Burn where
  bank : Bank
  row : LogicalRow
  spare : SpareIdx
  attempt : Fin 4
  slot : Fin 48
  deriving DecidableEq, Repr

/-- RPS: the slots, the burn in progress if the burn phase is BURNING, and RPS_SELECT (R151, R153, R159). -/
structure RepairStore where
  slots : Vector StoreSlot 48
  burn : Option Burn
  select : Fin 64
  deriving DecidableEq, Repr

/-! ### Maintenance commands (Chapter 10) -/

/-- The commands of Table 10-2, and a code that names none. -/
inductive MntCommand where
  | clearBank
  | migrateRow
  | abortMigration
  | burnRow
  | hold
  | release
  | enterRetention
  | exitRetention
  | dropRecord
  | restartPatrol
  | unknown (code : BitVec 8)
  deriving DecidableEq, Repr

/-- The results of Table 10-3. -/
inductive MntResult where
  | none
  | done
  | superseded
  | failed
  | badCommand
  | badRow
  | notFormatted
  | engineBusy
  | noSpare
  | rowBusy
  | noMigration
  | notRemapped
  | alreadyPersistent
  | storeFull
  | retained
  | bankBusy
  | alreadyRetained
  | notRetained
  | noRecord
  deriving DecidableEq, Repr

/-- The content of MNT_ARG (R169). -/
structure MntArg where
  bank : Bank
  rowField : Fin 16384
  index : Fin 32
  deriving DecidableEq, Repr

/-- The running command with its captured argument (R170). -/
structure RunningCommand where
  command : MntCommand
  arg : MntArg
  deriving DecidableEq, Repr

/-- The bank clear: its bank and next position (Table 10-1). -/
structure BankClear where
  bank : Bank
  next : RowLine
  deriving DecidableEq, Repr

/-- MNT (Table 10-1); the unit is RUNNING exactly while a running command is present, and the retention
phase is the controller state's. -/
structure Maintenance where
  arg : MntArg
  running : Option RunningCommand
  lastCommand : Option (BitVec 8)
  lastResult : MntResult
  lastBurnSlot : Option (Fin 48)
  hold : Bool
  clear : Option BankClear
  deriving DecidableEq, Repr

/-! ### Events and reports (Chapter 11) -/

/-- EVT: the latched bits and the mask bits, at the positions of Table 11-1 (R186, R188). -/
structure EventUnit where
  latched : Word
  mask : Word
  deriving DecidableEq, Repr

/-- Who read the line of a notice or report (Table 1-7). -/
inductive Reader where
  | hostRead
  | hostMerge
  | patrol
  | copy
  deriving DecidableEq, Repr

/-- An uncorrectable report (Table 11-2). -/
structure Report where
  bank : Bank
  logical : LogicalRow
  row : PhysRow
  line : LineNo
  source : Reader
  pass : BitVec 16
  deriving DecidableEq, Repr

/-- UER: the reports, oldest first, and the overflow flag (R190). -/
structure ReportQueue where
  reports : List Report
  overflow : Bool
  deriving DecidableEq, Repr

/-! ### The machine -/

/-- The whole block: every register, queue, table and mode the specification gives it, the array, the
power and the RST input, and the model's own three fields (the last word read, the count of line reads,
and the queue of commands that wait). -/
structure State where
  /-- Power is applied. -/
  powered : Bool
  /-- The RST input is asserted. -/
  rstAsserted : Bool
  hpt : HostPort
  req : RequestQueue
  buf : Buffers
  cpl : List Completion
  banks : Vector BankSection 8
  refreshTimer : TimerState
  rmp : RemapTable
  mig : Engine
  frt : FaultTable
  ptl : Patrol
  rps : RepairStore
  mnt : Maintenance
  evt : EventUnit
  uer : ReportQueue
  array : Memory
  /-- The MODEL's own: the word that the last window read returned on D31–D0. -/
  readData : Word
  /-- The MODEL's own: how many lines have been read; it numbers the free values of Config. -/
  lineReads : Nat
  /-- The MODEL's own: the commands that wait, first in first out. -/
  pending : List Instr
  deriving DecidableEq, Repr

/-- Reasons to stop with a fault: there is none. The specification gives every command an effect in every
state in which it can occur, and no command of the model faults (safe: nothing is claimed of a stop). -/
inductive Fault where
  deriving DecidableEq, Repr

/-- Reasons to refuse a command. -/
inductive Refusal where
  /-- Raised by `exec` alone, for a command without a meaning; no arm raises it now (safe: a refused
  command has no next state to claim anything of). -/
  | notModelled (mnemonic : String)
  deriving DecidableEq, Repr

/-- A bank section at power-on (R41). -/
def BankSection.initial : BankSection :=
  { phase := .idle, condition := .unformatted, debt := 0, hostSlot := none, migrationSlot := false,
    patrolSlot := none, clearSlot := none, migrationAge := 0, patrolAge := 0 }

/-- A bank's remap entries and spares before the load (R97). -/
def BankRemap.initial : BankRemap := { entries := [], spares := Vector.replicate 16 .free }

/-- MNT_ARG after either reset (R169). -/
def MntArg.initial : MntArg := { bank := 0, rowField := 0, index := 0 }

/-- The REQ_A latch after either reset (R45). -/
def RequestLatch.initial : RequestLatch := { tag := 0, kindCode := 0, buffer := 0, mask := 0 }

/-- REQ after either reset (R45, R52, R60, R61). -/
def RequestQueue.initial : RequestQueue :=
  { held := [], latch := .initial, result := .none, resultTag := 0 }

/-- PTL after either reset (R149, R150). -/
def Patrol.initial : Patrol := { interval := 0, cursor := .start, step := .none, pass := 0 }

/-- MNT after either reset (R184). -/
def Maintenance.initial : Maintenance :=
  { arg := .initial, running := none, lastCommand := none, lastResult := .none, lastBurnSlot := none,
    hold := false, clear := none }

/-- The machine right after power-on with RST released (R164): STARTING in LOADING, every block at its
power-on values (R41, R60, R78, R97, R120, R136, R149, R168, R184, R189, R193), every line UNKNOWN (R2),
a repair store that was never programmed (Table 9-1). -/
def State.reset : State where
  powered := true
  rstAsserted := false
  hpt := { state := .starting .loading, threshold := 4, autoMigrate := false }
  req := .initial
  buf := { lines := Vector.replicate 4 { state := .host, words := .zero }, selected := 0, index := 0 }
  cpl := []
  banks := Vector.replicate 8 .initial
  refreshTimer := .stopped
  rmp := { banks := Vector.replicate 8 .initial, selectBank := 0, selectRow := 0 }
  mig := { state := .idle, last := none }
  frt := { slots := Vector.replicate 32 none, queue := [], select := 0, holdB := 0, holdC := 0 }
  ptl := .initial
  rps := { slots := Vector.replicate 48 .blank, burn := none, select := 0 }
  mnt := .initial
  evt := { latched := 0, mask := 0 }
  uer := { reports := [], overflow := false }
  array := []
  readData := 0
  lineReads := 0
  pending := []

end Sys2Proof.Machine
end

