-- ==== Sys2Proof/Machine/Ops.lean ====
section
/-! DEFINITION. The named operations over the state: one setter for each block, the array's reads and
writes, the banks, and the events. -/

namespace Sys2Proof.Machine

/-! ### Setters: the state with one block replaced -/

def State.setHpt (s : State) (v : HostPort) : State := { s with hpt := v }
def State.setReq (s : State) (v : RequestQueue) : State := { s with req := v }
def State.setBuf (s : State) (v : Buffers) : State := { s with buf := v }
def State.setCpl (s : State) (v : List Completion) : State := { s with cpl := v }
def State.setBanks (s : State) (v : Vector BankSection 8) : State := { s with banks := v }
def State.setRefreshTimer (s : State) (v : TimerState) : State := { s with refreshTimer := v }
def State.setRmp (s : State) (v : RemapTable) : State := { s with rmp := v }
def State.setMig (s : State) (v : Engine) : State := { s with mig := v }
def State.setFrt (s : State) (v : FaultTable) : State := { s with frt := v }
def State.setPtl (s : State) (v : Patrol) : State := { s with ptl := v }
def State.setRps (s : State) (v : RepairStore) : State := { s with rps := v }
def State.setMnt (s : State) (v : Maintenance) : State := { s with mnt := v }
def State.setEvt (s : State) (v : EventUnit) : State := { s with evt := v }
def State.setUer (s : State) (v : ReportQueue) : State := { s with uer := v }
def State.setArray (s : State) (v : Memory) : State := { s with array := v }
def State.setReadData (s : State) (v : Word) : State := { s with readData := v }
def State.setLineReads (s : State) (v : Nat) : State := { s with lineReads := v }

/-! ### The array -/

/-- The number of a physical line: bank, row and line in one (R1). -/
def lineAddress (b : Bank) (r : PhysRow) (n : LineNo) : Nat := (b.val * 8208 + r.val) * 32 + n.val

/-- The line at a number; an unlisted line is UNKNOWN with no changed bit (R2). -/
def Memory.read : Memory → Nat → LineCell
  | [], _ => .unlisted
  | (k, c) :: rest, a => if k = a then c else Memory.read rest a

/-- The array with the line at `a` replaced, kept in canonical form. -/
def Memory.write : Memory → Nat → LineCell → Memory
  | [], a, c => if c = .unlisted then [] else [(a, c)]
  | (k, d) :: rest, a, c =>
    if a < k then (if c = .unlisted then (k, d) :: rest else (a, c) :: (k, d) :: rest)
    else if a = k then (if c = .unlisted then rest else (a, c) :: rest)
    else (k, d) :: Memory.write rest a c

/-- The physical line at a bank, row and line. -/
def State.cell (s : State) (b : Bank) (r : PhysRow) (n : LineNo) : LineCell :=
  s.array.read (lineAddress b r n)

/-- The state with one physical line replaced. -/
def State.writeCell (s : State) (b : Bank) (r : PhysRow) (n : LineNo) (c : LineCell) : State :=
  s.setArray (s.array.write (lineAddress b r n) c)

/-- A write of data: form DATA with those words, no changed bit (R2). -/
def State.writeData (s : State) (b : Bank) (r : PhysRow) (n : LineNo) (w : LineWords) : State :=
  s.writeCell b r n ⟨.data w, []⟩

/-- A write of the poison marker: form POISON, no changed bit (R2). -/
def State.writePoison (s : State) (b : Bank) (r : PhysRow) (n : LineNo) : State :=
  s.writeCell b r n ⟨.poison, []⟩

/-- A write of data to the line of every write row (R10). -/
def State.writeDataRows (s : State) (b : Bank) (rows : Rows) (n : LineNo) (w : LineWords) : State :=
  match rows.target with
  | none => s.writeData b rows.source n w
  | some t => (s.writeData b rows.source n w).writeData b t n w

/-- The poison marker written to the line of every write row (R6). -/
def State.poisonRows (s : State) (b : Bank) (rows : Rows) (n : LineNo) : State :=
  match rows.target with
  | none => s.writePoison b rows.source n
  | some t => (s.writePoison b rows.source n).writePoison b t n

/-- Bits of a line change by themselves: each adds one to its changed bits (R3). -/
def State.strike (s : State) (b : Bank) (r : PhysRow) (n : LineNo) (bits : List BitPos) : State :=
  let c := s.cell b r n
  s.writeCell b r n ⟨c.form, c.changes ++ bits⟩

/-! ### Banks -/

/-- The section of a bank (Table 2-1). -/
def State.bank (s : State) (b : Bank) : BankSection := s.banks[b]

/-- The state with the section of a bank replaced. -/
def State.setBank (s : State) (b : Bank) (k : BankSection) : State :=
  s.setBanks (s.banks.set b.val k b.isLt)

/-- The state with a function applied to the section of every bank. -/
def State.mapBanks (s : State) (f : BankSection → BankSection) : State :=
  s.setBanks (Vector.ofFn fun b : Bank => f s.banks[b])

/-- The eight banks in order. -/
def allBanks : List Bank := [0, 1, 2, 3, 4, 5, 6, 7]

/-- The remap entries and spares of a bank. -/
def State.remap (s : State) (b : Bank) : BankRemap := s.rmp.banks[b]

/-- The state with the remap entries and spares of a bank replaced. -/
def State.setRemap (s : State) (b : Bank) (m : BankRemap) : State :=
  s.setRmp { s.rmp with banks := s.rmp.banks.set b.val m b.isLt }

/-! ### Window and events -/

/-- The window is open: power is applied and the controller is READY or in retention (R165). -/
def State.windowOpen (s : State) : Bool :=
  s.powered &&
    match s.hpt.state with
    | .ready | .enteringRetention | .retained | .leavingRetention => true
    | .starting _ | .heldInReset | .restarting => false

/-- A window write: ignored while the window is closed (R165). -/
def State.onWrite (s : State) (effect : State → State) : State := if s.windowOpen then effect s else s

/-- A window read that has an effect: it returns 0 and has no other effect while the window is closed
(R165); without power there is no access (log entry 10). -/
def State.onRead (s : State) (effect : State → State) : State :=
  if s.windowOpen then effect s else if s.powered then s.setReadData 0 else s

/-- The stop condition of the migration engine: the hold is set, or the controller is not READY (R99). -/
def State.stopped (s : State) : Bool := s.mnt.hold || s.hpt.state != .ready

end Sys2Proof.Machine
end

