-- ==== Sys2Proof/Machine/Flags.lean ====
section
/-! DEFINITION. The event unit: the latched and level bits of EVT_STATUS, the mask and INT (11.1, 11.2). -/

namespace Sys2Proof.Machine

/-- The latched events of Table 11-1. -/
inductive Event where
  | maintDone
  | migrationEnd
  | spareExhausted
  | recordTableFull
  | uerOverflow
  | submitRejected
  | bufferFault
  | maintRefusedBusy
  | passEnd
  | ready
  deriving DecidableEq, Repr

/-- The bit position of a latched event (Table 11-1). -/
def Event.position : Event → Nat
  | .maintDone => 8
  | .migrationEnd => 9
  | .spareExhausted => 10
  | .recordTableFull => 11
  | .uerOverflow => 12
  | .submitRejected => 13
  | .bufferFault => 14
  | .maintRefusedBusy => 15
  | .passEnd => 16
  | .ready => 17

/-- The bit of a latched event. -/
def Event.bit (e : Event) : Word := 1#32 <<< e.position

/-- The positions of the latched bits: 17–8 (Table 11-4). -/
def latchedPositions : Word := 0x0003FF00#32

/-- The positions of the level bits: 2–0 (Table 11-4). -/
def levelPositions : Word := 0x00000007#32

/-- An event latches its bit; a bit already 1 stays 1 (R186). -/
def State.latch (s : State) (e : Event) : State :=
  s.setEvt { s.evt with latched := s.evt.latched ||| e.bit }

/-- The event is latched. -/
def State.isLatched (s : State) (e : Event) : Bool := s.evt.latched &&& e.bit != 0#32

/-- A write to EVT_ACK clears the latched bits written as 1; level bits follow their conditions (R187). -/
def acknowledge (w : Word) (s : State) : State :=
  s.setEvt { s.evt with latched := s.evt.latched &&& ~~~(w &&& latchedPositions) }

/-- A write to EVT_MASK stores a mask bit for each named position (R188). -/
def storeMask (w : Word) (s : State) : State :=
  s.setEvt { s.evt with mask := w &&& (latchedPositions ||| levelPositions) }

/-- The bit `position` is 1 exactly if the condition holds. -/
def flagBit (condition : Bool) (position : Nat) : Word :=
  if condition then 1#32 <<< position else 0#32

/-- The level bits, each following its condition (R185): CPL_PENDING, UER_PENDING, CANDIDATE_WAITING. -/
def State.levelBits (s : State) : Word :=
  flagBit (!s.cpl.isEmpty) 0 ||| flagBit (!s.uer.reports.isEmpty) 1 ||| flagBit (!s.frt.queue.isEmpty) 2

/-- EVT_STATUS: every bit, level and latched, as it stands; unnamed positions read 0 (R185). -/
def State.eventStatus (s : State) : Word :=
  (s.evt.latched &&& latchedPositions) ||| s.levelBits

/-- INT is asserted while some position has both its status bit and its mask bit at 1 (R188). -/
def State.interrupt (s : State) : Bool := s.eventStatus &&& s.evt.mask != 0#32

end Sys2Proof.Machine
end

