-- ==== Sys2Proof/Machine/CommandUnit.lean ====
section
/-! DEFINITION. The maintenance command unit: how a command is taken, refused as busy and completed (10.1). -/

namespace Sys2Proof.Machine

/-- The code of a command (Table 11-4). -/
def MntCommand.code : MntCommand → BitVec 8
  | .clearBank => 1
  | .migrateRow => 2
  | .abortMigration => 3
  | .burnRow => 4
  | .hold => 5
  | .release => 6
  | .enterRetention => 7
  | .exitRetention => 8
  | .dropRecord => 9
  | .restartPatrol => 10
  | .unknown code => code

/-- The command that a code names (Table 11-4); 0 and 11–255 name none (R195). -/
def MntCommand.ofCode (code : BitVec 8) : MntCommand :=
  if code = 1 then .clearBank
  else if code = 2 then .migrateRow
  else if code = 3 then .abortMigration
  else if code = 4 then .burnRow
  else if code = 5 then .hold
  else if code = 6 then .release
  else if code = 7 then .enterRetention
  else if code = 8 then .exitRetention
  else if code = 9 then .dropRecord
  else if code = 10 then .restartPatrol
  else .unknown code

/-- The completion of the running command with its result (R172). -/
def completeCommand (r : MntResult) (s : State) : State :=
  (s.setMnt { s.mnt with running := none, lastResult := r }).latch .maintDone

/-- The completion of a burn: it also sets the last burn slot (R172). -/
def completeBurn (r : MntResult) (slot : Fin 48) (s : State) : State :=
  completeCommand r (s.setMnt { s.mnt with lastBurnSlot := some slot })

/-- The unit RUNNING with a command just taken and the argument captured (R170). -/
def beginCommand (c : MntCommand) (s : State) : State :=
  s.setMnt { s.mnt with
    running := some ⟨c, s.mnt.arg⟩, lastCommand := some c.code, lastResult := .none }

/-- A write to MNT_CMD with the code of `c`: taken while the unit is IDLE, and then checked and carried out
by `body` on the captured argument at that same happening; refused as busy while it is RUNNING; ignored
while the window is closed (R165, R170, R171). -/
def takeCommand (c : MntCommand) (body : MntArg → State → State) (s : State) : State :=
  s.onWrite fun s =>
    match s.mnt.running with
    | none => body s.mnt.arg (beginCommand c s)
    | some _ => s.latch .maintRefusedBusy

end Sys2Proof.Machine
end

