-- ==== Sys2Proof/Machine/Remap.lean ====
section
/-! DEFINITION. The remap table and the spare pools: entries, roles, translation, and the claims of other
blocks (Chapter 5). -/

namespace Sys2Proof.Machine

/-! ### Entries -/

/-- The current spare of an entry, where it has one (Table 5-1). -/
def RemapEntry.current (e : RemapEntry) : Option SpareIdx :=
  match e.state with
  | .active c => some c
  | .pending c _ _ _ => c

/-- The entry is PENDING. -/
def RemapEntry.isPending (e : RemapEntry) : Bool :=
  match e.state with
  | .active _ => false
  | .pending _ _ _ _ => true

/-- The physical row that holds the entry's logical row: its current spare, or its regular row (R85). -/
def RemapEntry.source (e : RemapEntry) : PhysRow :=
  match e.current with
  | some c => c.physical
  | none => e.row.regular

/-- The target row of a line below the copy cursor of a PENDING entry (R85). -/
def RemapEntry.targetBelow (e : RemapEntry) (n : LineNo) : Option PhysRow :=
  match e.state with
  | .active _ => none
  | .pending _ t cursor _ => if n < cursor then some t.physical else none

/-- The entry for a logical row (R80). -/
def BankRemap.entry? (m : BankRemap) (l : LogicalRow) : Option RemapEntry :=
  m.entries.find? (fun e => e.row == l)

/-- The PENDING entry of a bank. -/
def BankRemap.pending? (m : BankRemap) : Option RemapEntry := m.entries.find? RemapEntry.isPending

/-- The entry whose current spare is `i`. -/
def BankRemap.ofSpare? (m : BankRemap) (i : SpareIdx) : Option RemapEntry :=
  m.entries.find? (fun e => e.current == some i)

/-- The table with the entry of a row replaced. -/
def BankRemap.update (m : BankRemap) (e : RemapEntry) : BankRemap :=
  { m with entries := m.entries.map (fun d => if d.row = e.row then e else d) }

/-- The table with the entry of a row removed. -/
def BankRemap.remove (m : BankRemap) (l : LogicalRow) : BankRemap :=
  { m with entries := m.entries.filter (fun e => e.row != l) }

/-- The table with a new entry. -/
def BankRemap.insert (m : BankRemap) (e : RemapEntry) : BankRemap :=
  { m with entries := m.entries ++ [e] }

/-! ### Spares -/

/-- The state of a spare. -/
def BankRemap.spare (m : BankRemap) (i : SpareIdx) : SpareState := m.spares[i]

/-- The table with the state of a spare set. -/
def BankRemap.setSpare (m : BankRemap) (i : SpareIdx) (v : SpareState) : BankRemap :=
  { m with spares := m.spares.set i.val v i.isLt }

/-- The count of FREE spares, 0–16 (R82). -/
def BankRemap.freeCount (m : BankRemap) : Nat := m.spares.toList.count .free

/-- The lowest-indexed FREE spare, the one RMP chooses as a target (R82). -/
def BankRemap.lowestFree? (m : BankRemap) : Option SpareIdx :=
  (List.finRange 16).find? (fun i => m.spare i == .free)

/-! ### Roles of physical rows (R8, R87) -/

/-- A regular row is shadowed while its row's entry carries a current spare (R8). -/
def BankRemap.shadowed (m : BankRemap) (l : LogicalRow) : Bool :=
  match m.entry? l with
  | some e => e.current.isSome
  | none => false

/-- A physical row is in use: a regular row that is not shadowed, or a spare in state IN_USE (R8). -/
def BankRemap.inUse (m : BankRemap) (p : PhysRow) : Bool :=
  match p.regular?, p.spare? with
  | some l, _ => !m.shadowed l
  | none, some i => m.spare i == .inUse
  | none, none => false

/-- The logical row that a physical row holds (R87): a regular row its own number, an IN_USE spare the row
of the entry whose current spare it is (0 where the table has none, which no reachable state shows). -/
def BankRemap.logicalOf (m : BankRemap) (p : PhysRow) : LogicalRow :=
  match p.regular?, p.spare? with
  | some l, _ => l
  | none, some i => ((m.ofSpare? i).map RemapEntry.row).getD 0
  | none, none => 0

/-- The physical row is the source of the bank's PENDING entry (R87). -/
def BankRemap.isSource (m : BankRemap) (p : PhysRow) : Bool :=
  match m.pending? with
  | some e => e.source == p
  | none => false

/-- The rows of a scrub of line `n` of a row: the row, and the target where the row is the source of the
PENDING entry and the line lies below its cursor (R31, R87). -/
def BankRemap.scrubRows (m : BankRemap) (p : PhysRow) (n : LineNo) : Rows :=
  match m.pending? with
  | some e => if e.source = p then ⟨p, e.targetBelow n⟩ else ⟨p, none⟩
  | none => ⟨p, none⟩

/-- A bank clear writes the row: it is in use, or it is a FREE spare (R176: shadowed rows and RETIRED
spares are passed over, and no spare is TARGET during a clear). -/
def BankRemap.cleared (m : BankRemap) (p : PhysRow) : Bool :=
  match p.regular?, p.spare? with
  | some l, _ => !m.shadowed l
  | none, some i => m.spare i != .retired
  | none, none => false

/-! ### Translation (R84–R86) -/

/-- The read row and write rows of line `n` of logical row `l` (Table 5-3). -/
def BankRemap.translate (m : BankRemap) (l : LogicalRow) (n : LineNo) : Rows :=
  match m.entry? l with
  | none => ⟨l.regular, none⟩
  | some e => ⟨e.source, e.targetBelow n⟩

/-- A physical row is a spare row. -/
def isSpareRow (p : PhysRow) : Bool := p.spare?.isSome

/-- The from-spare flag of a read: its read row is a spare (R86). -/
def Rows.fromSpareRead (rows : Rows) : Bool := isSpareRow rows.source

/-- The from-spare flag of a write or a merge: its read row or a write row is a spare (R86). -/
def Rows.fromSpareWrite (rows : Rows) : Bool :=
  isSpareRow rows.source || (rows.target.map isSpareRow).getD false

/-! ### Claims (R89–R94) -/

/-- The create claim for a row, with target `t` (R89). -/
def BankRemap.create (m : BankRemap) (l : LogicalRow) (t : SpareIdx) : BankRemap :=
  match m.entry? l with
  | none => (m.setSpare t .target).insert ⟨l, .pending none t 0 0, .volatile⟩
  | some e => (m.setSpare t .target).update { e with state := .pending e.current t 0 0 }

/-- The advance claim after the copy of line `n`: the cursor becomes n + 1 (R90). -/
def BankRemap.advance (m : BankRemap) (e : RemapEntry) (n : LineNo) : BankRemap :=
  match e.state with
  | .pending c t _ k => m.update { e with state := .pending c t (n + 1) k }
  | .active _ => m

/-- The spare states after a commit: the target IN_USE, an old current spare RETIRED (R91). -/
def BankRemap.commitSpares (m : BankRemap) (c : Option SpareIdx) (t : SpareIdx) : BankRemap :=
  match c with
  | some old => (m.setSpare old .retired).setSpare t .inUse
  | none => m.setSpare t .inUse

/-- The commit claim: ACTIVE on the target, origin VOLATILE (R91). -/
def BankRemap.commit (m : BankRemap) (e : RemapEntry) : BankRemap :=
  match e.state with
  | .pending c t _ _ => (m.commitSpares c t).update ⟨e.row, .active t, .volatile⟩
  | .active _ => m

/-- The revert of an entry, its target left in state `v`: FREE on an abort or a warm reset, RETIRED on a
failure (R93). -/
def BankRemap.revert (m : BankRemap) (e : RemapEntry) (v : SpareState) : BankRemap :=
  match e.state with
  | .pending (some c) t _ _ => (m.setSpare t v).update { e with state := .active c }
  | .pending none t _ _ => (m.setSpare t v).remove e.row
  | .active _ => m

/-- The restart of a migration on a new target after a verify failure (R92): the old target is RETIRED,
the restarts rise by 1 and the cursor is 0. -/
def BankRemap.restart (m : BankRemap) (e : RemapEntry) (t' : SpareIdx) : BankRemap :=
  match e.state with
  | .pending c t _ k =>
    ((m.setSpare t .retired).setSpare t' .target).update { e with state := .pending c t' 0 (k + 1) }
  | .active _ => m

/-- The origin-change claim of a burn: the entry is ACTIVE with current spare `i` (R94). -/
def BankRemap.burnMatches (m : BankRemap) (l : LogicalRow) (i : SpareIdx) : Bool :=
  match m.entry? l with
  | some e => e.state == .active i
  | none => false

/-- The origin-change claim that was made: the entry's origin becomes PERSISTENT (R94). -/
def BankRemap.makePersistent (m : BankRemap) (l : LogicalRow) : BankRemap :=
  match m.entry? l with
  | some e => m.update { e with origin := .persistent }
  | none => m

/-- The turn of a WRITTEN slot in the power-on load (R161). -/
def BankRemap.load (m : BankRemap) (l : LogicalRow) (i : SpareIdx) : BankRemap :=
  if m.spare i = .free then
    match m.entry? l with
    | none => (m.setSpare i .inUse).insert ⟨l, .active i, .persistent⟩
    | some e => ((m.commitSpares e.current i)).update ⟨l, .active i, .persistent⟩
  else m

/-! ### The table of the state -/

/-- The turn of one slot of the power-on load: BLANK and BAD slots are skipped (R160). -/
def loadSlot (s : State) : StoreSlot → State
  | .written b l i => s.setRemap b ((s.remap b).load l i)
  | .blank => s
  | .bad => s

/-- The power-on load: every slot in ascending order (R160). -/
def loadStore (s : State) : State := s.rps.slots.toList.foldl loadSlot s

/-- No entries, every spare FREE (R97). -/
def clearRemap (s : State) : State :=
  s.setRmp { s.rmp with banks := Vector.replicate 8 .initial }

/-- A bank's table with its PENDING entry, if any, reverted as at an abort (R93, R97). -/
def BankRemap.revertPending (m : BankRemap) : BankRemap :=
  match m.pending? with
  | some e => m.revert e .free
  | none => m

/-- The remap table at a warm reset: the PENDING entry is reverted, RMP_SELECT takes its reset value (R97). -/
def resetRemap (s : State) : State :=
  s.setRmp { banks := Vector.ofFn fun b : Bank => s.rmp.banks[b].revertPending
             selectBank := 0, selectRow := 0 }

end Sys2Proof.Machine
end

