-- ==== Sys2Proof/Machine/BankClear.lean ====
section
/-! DEFINITION. The bank clear: its order of lines, the rows it passes over, and its end (10.3). -/

namespace Sys2Proof.Machine

/-- The physical row numbered `k`, if there is one. -/
def physRow? (k : Nat) : Option PhysRow := if h : k < 8208 then some ⟨k, h⟩ else none

/-- The first row at or after row `k` that a clear writes, in at most `fuel` rows (R176). -/
def clearRowFrom (m : BankRemap) : Nat → Nat → Option PhysRow
  | 0, _ => none
  | fuel + 1, k =>
    match physRow? k with
    | none => none
    | some p => if m.cleared p then some p else clearRowFrom m fuel (k + 1)

/-- The first position at or after `p` that a clear writes (R176). -/
def clearAt (m : BankRemap) (p : RowLine) : Option RowLine :=
  if m.cleared p.row then some p else (clearRowFrom m 8208 (p.row.val + 1)).map fun r => ⟨r, 0⟩

/-- The first position after `p` that a clear writes, or none after the last (R176, R177). -/
def clearAfter (m : BankRemap) (p : RowLine) : Option RowLine :=
  if h : p.line.val < 31 then clearAt m { p with line := ⟨p.line.val + 1, by omega⟩ }
  else (clearRowFrom m 8208 (p.row.val + 1)).map fun r => ⟨r, 0⟩

/-- The end of the last CLEAR LINE: the bank is FORMATTED, the bank clear ceases and CLEAR BANK completes
with DONE (R177). -/
def finishClear (b : Bank) (s : State) : State :=
  let s' := s.setBank b { s.bank b with condition := .formatted }
  completeCommand .done (s'.setMnt { s'.mnt with clear := none })

/-- The bank clear receives the completion of its line: it moves on, or ends after the last line (R176, R177). -/
def clearLineEnds (b : Bank) (p : RowLine) (s : State) : State :=
  match s.mnt.clear with
  | some c =>
    if c.bank = b then
      match clearAfter (s.remap b) p with
      | some q => s.setMnt { s.mnt with clear := some ⟨b, q⟩ }
      | none => finishClear b s
    else s
  | none => s

/-- A CLEAR LINE of the bank clear is in progress. -/
def clearInProgress (k : BankSection) : Bool :=
  match k.phase with
  | .busy (.clearLine _ _) .deliver => true
  | _ => false

/-- The position that the bank clear may place now: its host slot and clear slot are empty and no line of
the clear is in progress (R36, R175, R176). -/
def clearPlacement? (s : State) : Option (Bank × RowLine) :=
  match s.mnt.clear with
  | some c =>
    let k := s.bank c.bank
    if k.condition = .clearing ∧ k.hostSlot = none ∧ k.clearSlot = none ∧ clearInProgress k = false then
      (clearAt (s.remap c.bank) c.next).map fun p => (c.bank, p)
    else none
  | none => none

end Sys2Proof.Machine
end

