-- ==== Sys2Proof/Machine/LineCheck.lean ====
section
/-! DEFINITION. What a read of a physical line yields: check outcome and delivered words (1.3). -/

namespace Sys2Proof.Machine

/-- What a read hands to its operation: the outcome and the delivered words (R5). -/
structure ReadResult where
  outcome : CheckOutcome
  words : LineWords
  deriving DecidableEq, Repr

/-- A line's words with the bit `bit` of one word inverted. -/
def flipBit (words : LineWords) (index : WordIdx) (bit : Fin 32) : LineWords :=
  words.set index.val (words[index] ^^^ (1#32 <<< bit.val)) index.isLt

/-- The data words with one stored bit changed: a change in the check information leaves them (R3). -/
def applyChange (words : LineWords) : BitPos → LineWords
  | .word index bit => flipBit words index bit
  | .check => words

/-- The data words as stored: the words last written with every changed bit left changed (R5). -/
def storedWords (written : LineWords) (changes : List BitPos) : LineWords :=
  changes.foldl applyChange written

/-- The corrected word index of a single changed bit: its data word 0–7, or 8 for the check information (R4). -/
def correctedIndex : BitPos → Fin 9
  | .word index _ => ⟨index.val, by omega⟩
  | .check => 8

/-- The stored words with the bit that a correction inverts: one in the named data word, none for index 8 (R5). -/
def miscorrect (stored : LineWords) (index : Fin 9) (bit : Fin 32) : LineWords :=
  if h : index.val < 8 then flipBit stored ⟨index.val, h⟩ bit else stored

/-- How many changes of a line stand at each position (R3). -/
def changesAt (changes : List BitPos) : BitPos → Nat := fun p => changes.count p

/-- A read of a DATA line with three or more changed bits (R4, R5): the positions of the changed bits decide
the outcome, so a line that is not altered reads the same outcome again. -/
def readManyBits (n : Nat) (written : LineWords) (changes : List BitPos) : ReadResult :=
  let stored := storedWords written changes
  match Config.manyBitOutcome (changesAt changes) with
  | .clean => ⟨.clean, stored⟩
  | .corrected =>
    let wrong := Config.miscorrection n (changesAt changes)
    ⟨.corrected wrong.1, miscorrect stored wrong.1 wrong.2⟩
  | .uncorrectable => ⟨.uncorrectable, stored⟩

/-- A read of a DATA line (R4, R5, Tables 1-3 and 1-4); `n` numbers the read. -/
def readDataLine (n : Nat) (written : LineWords) (changes : List BitPos) : ReadResult :=
  match changes with
  | [] => ⟨.clean, written⟩
  | [p] => ⟨.corrected (correctedIndex p), written⟩
  | [_, _] => ⟨.uncorrectable, storedWords written changes⟩
  | _ => readManyBits n written changes

/-- A read of a POISON line: POISONED and zero words up to one changed bit, then UNCORRECTABLE (Table 1-3). -/
def readPoisonLine (n : Nat) (changes : List BitPos) : ReadResult :=
  if changes.length < 2 then ⟨.poisoned, .zero⟩ else ⟨.uncorrectable, Config.poisonStoredWords n⟩

/-- A read of an UNKNOWN line: any outcome, any words, but zero words for POISONED (R4, R5). -/
def readUnknownLine (n : Nat) : ReadResult :=
  match Config.unknownOutcome n with
  | .poisoned => ⟨.poisoned, .zero⟩
  | outcome => ⟨outcome, Config.unknownWords n⟩

/-- The outcome and delivered words of the read numbered `n` of a line (R4, R5). -/
def readCell (n : Nat) (c : LineCell) : ReadResult :=
  match c.form with
  | .data written => readDataLine n written c.changes
  | .poison => readPoisonLine n c.changes
  | .unknown => readUnknownLine n

/-- What a read of the line now would yield. -/
def State.readResult (s : State) (b : Bank) (r : PhysRow) (n : LineNo) : ReadResult :=
  readCell s.lineReads (s.cell b r n)

/-- The read itself leaves the stored line as it is (R4); it only advances the number of the next read. -/
def State.countRead (s : State) : State := s.setLineReads (s.lineReads + 1)

end Sys2Proof.Machine
end

