-- ==== Sys2Proof/Machine/FaultRecords.lean ====
section
/-! DEFINITION. The fault record table, the candidate queue and the uncorrectable report queue
(Chapter 7, 11.3). -/

namespace Sys2Proof.Machine

/-! ### Slots -/

/-- The content of a slot. -/
def FaultTable.slot (f : FaultTable) (i : Fin 32) : Option FaultRecord := f.slots[i]

/-- The table with the content of a slot set. -/
def FaultTable.setSlot (f : FaultTable) (i : Fin 32) (r : Option FaultRecord) : FaultTable :=
  { f with slots := f.slots.set i.val r i.isLt }

/-- The table with one slot out of the candidate queue (R129). -/
def FaultTable.leave (f : FaultTable) (i : Fin 32) : FaultTable :=
  { f with queue := f.queue.filter (fun j => j != i) }

/-- The table with a record removed: its slot is empty and out of the queue (R132). -/
def FaultTable.removeSlot (f : FaultTable) (i : Fin 32) : FaultTable := (f.setSlot i none).leave i

/-- The slot whose record has this bank and physical row (R122). -/
def FaultTable.slotOf? (f : FaultTable) (b : Bank) (p : PhysRow) : Option (Fin 32) :=
  (List.finRange 32).find? fun i =>
    match f.slot i with
    | some r => r.bank == b && r.row == p
    | none => false

/-- The lowest-numbered empty slot (R125). -/
def FaultTable.lowestEmpty? (f : FaultTable) : Option (Fin 32) :=
  (List.finRange 32).find? fun i => (f.slot i).isNone

/-- The slot of the MIGRATING record, of which there is at most one (R123). -/
def FaultTable.migratingSlot? (f : FaultTable) : Option (Fin 32) :=
  (List.finRange 32).find? fun i =>
    match f.slot i with
    | some r => r.state == .migrating
    | none => false

/-- The number of records in the table, 0–32 (R135). -/
def FaultTable.recordCount (f : FaultTable) : Nat := f.slots.toList.countP Option.isSome

/-- The table with every record for which the test fails made away with; candidates among them leave the
queue, which keeps its order (R129). -/
def FaultTable.keep (f : FaultTable) (test : FaultRecord → Bool) : FaultTable :=
  { f with
    slots := Vector.ofFn fun i : Fin 32 => (f.slot i).filter test
    queue := f.queue.filter fun i => ((f.slot i).map test).getD false }

/-! ### Eviction (R126) -/

/-- A record's age at pass `now`: passes since it was last seen, modulo 65536 (R126). -/
def FaultRecord.age (r : FaultRecord) (now : BitVec 16) : Nat := (now - r.lastPass).toNat

/-- `r` goes before `q` in the choice of the record to evict: a lower correctable count, or an equal count
and a greater age (R126). -/
def FaultRecord.evictedBefore (now : BitVec 16) (r q : FaultRecord) : Bool :=
  decide (r.correctable < q.correctable) ||
    (r.correctable == q.correctable && decide (q.age now < r.age now))

/-- One slot considered in the choice; a tie leaves the lower-numbered slot chosen before it. -/
def FaultTable.considerEviction (f : FaultTable) (now : BitVec 16)
    (best : Option (Fin 32 × FaultRecord)) (i : Fin 32) : Option (Fin 32 × FaultRecord) :=
  match f.slot i with
  | none => best
  | some r =>
    if r.state = .watch then
      match best with
      | none => some (i, r)
      | some (j, q) => if r.evictedBefore now q then some (i, r) else some (j, q)
    else best

/-- The slot of the WATCH record to evict, if any slot holds one (R126). -/
def FaultTable.evictionSlot? (f : FaultTable) (now : BitVec 16) : Option (Fin 32) :=
  ((List.finRange 32).foldl (f.considerEviction now) none).map Prod.fst

/-! ### Notices (R124–R128) -/

/-- A fault notice (Table 1-7); the outcome is CORRECTED or UNCORRECTABLE. -/
structure Notice where
  bank : Bank
  row : PhysRow
  logical : LogicalRow
  line : LineNo
  uncorrectable : Bool
  reader : Reader
  deriving DecidableEq, Repr

/-- A count raised by 1 that stays at 255 once reached (R125). -/
def countUp (c : Fin 256) : Fin 256 := if h : c.val < 255 then ⟨c.val + 1, by omega⟩ else c

/-- A notice counted in a record at pass `now` (R125). -/
def FaultRecord.count (r : FaultRecord) (n : Notice) (now : BitVec 16) : FaultRecord :=
  { r with
    correctable := if n.uncorrectable then r.correctable else countUp r.correctable
    uncorrectable := if n.uncorrectable then countUp r.uncorrectable else r.uncorrectable
    lastLine := n.line
    lastPass := now }

/-- A WATCH record is promoted by the notice just counted in it: an UNCORRECTABLE one, or a CORRECTED one
that leaves its count at a non-zero threshold or above (R128). -/
def FaultRecord.promoted (r : FaultRecord) (n : Notice) (threshold : Fin 16) : Bool :=
  r.state == .watch &&
    (n.uncorrectable || (threshold != 0 && decide (threshold.val ≤ r.correctable.val)))

/-- A record counted and judged in its slot: a promoted one becomes CANDIDATE at the tail of the queue (R128). -/
def FaultTable.countIn (f : FaultTable) (i : Fin 32) (r : FaultRecord) (n : Notice) (now : BitVec 16)
    (threshold : Fin 16) : FaultTable :=
  let counted := r.count n now
  if counted.promoted n threshold then
    { f.setSlot i (some { counted with state := .candidate }) with queue := f.queue ++ [i] }
  else f.setSlot i (some counted)

/-- The record that a notice makes, before it is counted (R125). -/
def newRecord (n : Notice) (now : BitVec 16) (source : Bool) : FaultRecord :=
  { bank := n.bank
    row := n.row
    logical := if n.row.val < 8192 then none else some n.logical
    correctable := 0
    uncorrectable := 0
    lastLine := n.line
    firstPass := now
    lastPass := now
    state := if source then .migrating else .watch }

/-- Where a notice goes in the table: the record it is counted in and its slot, an existing one, a new one
in the lowest empty slot, or a new one in the slot of the evicted record (R124–R126); none when the notice
is dropped (R127). -/
def FaultTable.place? (f : FaultTable) (n : Notice) (now : BitVec 16) (source : Bool) :
    Option (Fin 32 × FaultRecord) :=
  match f.slotOf? n.bank n.row with
  | some i => (f.slot i).map fun r => (i, r)
  | none =>
    match f.lowestEmpty? with
    | some i => some (i, newRecord n now source)
    | none => (f.evictionSlot? now).map fun i => (i, newRecord n now source)

/-- FRT decides to count the notice: its bank is not CLEARING and its row is in use now (R124). -/
def noticeTaken (n : Notice) (s : State) : Bool :=
  (s.bank n.bank).condition != .clearing && (s.remap n.bank).inUse n.row

/-- The arrival of a fault notice at FRT (R124–R128). -/
def receiveNotice (n : Notice) (s : State) : State :=
  if noticeTaken n s then
    match s.frt.place? n s.ptl.pass ((s.remap n.bank).isSource n.row) with
    | some (i, r) => s.setFrt (s.frt.countIn i r n s.ptl.pass s.hpt.threshold)
    | none => s.latch .recordTableFull
  else s

/-! ### Reports (R190) -/

/-- The arrival of an uncorrectable report: it joins the tail, or it is dropped at a full queue (R190). -/
def receiveReport (r : Report) (s : State) : State :=
  if s.uer.reports.length < 8 then s.setUer { s.uer with reports := s.uer.reports ++ [r] }
  else (s.setUer { s.uer with overflow := true }).latch .uerOverflow

/-- The report of a notice's read, with the pass counter as the happening leaves it (R12, R144). -/
def Notice.report (n : Notice) (pass : BitVec 16) : Report :=
  { bank := n.bank, logical := n.logical, row := n.row, line := n.line, source := n.reader, pass := pass }

/-- An operation's notice to FRT and, where the read was UNCORRECTABLE, its report to UER (R11, R12). -/
def sendNotice (n : Notice) (s : State) : State :=
  if n.uncorrectable then receiveReport (n.report s.ptl.pass) (receiveNotice n s)
  else receiveNotice n s

/-- A write to UER_POP: the head leaves; the flag clears when the queue becomes empty (R192). -/
def popReport (s : State) : State :=
  match s.uer.reports with
  | [] => s
  | _ :: rest => s.setUer { reports := rest, overflow := s.uer.overflow && !rest.isEmpty }

/-! ### Records at the ends and the start of a migration (R100, R130) -/

/-- The start of a migration takes the source's record, if there is one: MIGRATING, out of the queue. -/
def FaultTable.take (f : FaultTable) (b : Bank) (p : PhysRow) : FaultTable :=
  match f.slotOf? b p with
  | none => f
  | some i => (f.setSlot i ((f.slot i).map fun r => { r with state := .migrating })).leave i

/-- The MIGRATING record, if there is one, given another state. -/
def FaultTable.release (f : FaultTable) (v : RecordState) : FaultTable :=
  match f.migratingSlot? with
  | none => f
  | some i => f.setSlot i ((f.slot i).map fun r => { r with state := v })

/-- The end of a migration by commit: the MIGRATING record is removed (R132). -/
def FaultTable.atCommit (f : FaultTable) : FaultTable :=
  match f.migratingSlot? with
  | none => f
  | some i => f.removeSlot i

/-- The end of a migration by failure: the MIGRATING record becomes STUCK (R109). -/
def FaultTable.atFailure (f : FaultTable) : FaultTable := f.release .stuck

/-- The end of a migration by abort: CANDIDATE at the tail of the queue (R116). -/
def FaultTable.atAbort (f : FaultTable) : FaultTable :=
  match f.migratingSlot? with
  | none => f
  | some i => { f.release .candidate with queue := f.queue ++ [i] }

/-- A warm reset: the MIGRATING record becomes CANDIDATE at the head; FRT_SELECT and the holding words take
their reset values; everything else stays (R137). -/
def FaultTable.atReset (f : FaultTable) : FaultTable :=
  match f.migratingSlot? with
  | none => { f with select := 0, holdB := 0, holdC := 0 }
  | some i => { f.release .candidate with queue := i :: f.queue, select := 0, holdB := 0, holdC := 0 }

/-- Decay at a pass end that leaves the counter at `now`: a WATCH record stays if it was last seen in the
pass just ended or the one before (R131). -/
def FaultTable.decay (f : FaultTable) (now : BitVec 16) : FaultTable :=
  f.keep fun r => r.state != .watch || r.lastPass == now - 1 || r.lastPass == now - 2

/-- CLEAR BANK removes every record of its bank (R133). -/
def FaultTable.clearBank (f : FaultTable) (b : Bank) : FaultTable := f.keep fun r => r.bank != b

end Sys2Proof.Machine
end

