-- ==== Sys2Proof/Machine/Migration.lean ====
section
/-! DEFINITION. The migration engine: start, selection, parking, abort, and what the end of a copy does
(Chapter 6). -/

namespace Sys2Proof.Machine

/-- The engine put in a state; the last migration is kept. -/
def setEngine (v : EngineState) (s : State) : State := s.setMig { s.mig with state := v }

/-- The restarts of a PENDING entry (Table 5-1). -/
def RemapEntry.restarts (e : RemapEntry) : Fin 4 :=
  match e.state with
  | .pending _ _ _ k => k
  | .active _ => 0

/-- The physical row that holds a logical row now, the source of its migration (R85). -/
def BankRemap.sourceOf (m : BankRemap) (l : LogicalRow) : PhysRow :=
  match m.entry? l with
  | some e => e.source
  | none => l.regular

/-- SPARE_EXHAUSTED is latched when a FREE → TARGET transition leaves the bank with no FREE spare (R110). -/
def noteExhausted (b : Bank) (s : State) : State :=
  if (s.remap b).freeCount = 0 then s.latch .spareExhausted else s

/-! ### Start (R101) -/

/-- The state in which a migration begins: PARKED under the stop condition, COPYING otherwise (R101). -/
def startState (s : State) (b : Bank) (l : LogicalRow) : EngineState :=
  if s.stopped then .parked b l else .copying b l .absent

/-- The start of a migration of row `l` onto spare `t`, as one happening (R89, R100, R101). -/
def startOn (b : Bank) (l : LogicalRow) (t : SpareIdx) (s : State) : State :=
  noteExhausted b
    (setEngine (startState s b l)
      ((s.setRemap b ((s.remap b).create l t)).setFrt (s.frt.take b ((s.remap b).sourceOf l))))

/-- The start of a migration: the target is the lowest FREE spare (R82). -/
def startMigration (b : Bank) (l : LogicalRow) (s : State) : State :=
  match (s.remap b).lowestFree? with
  | some t => startOn b l t s
  | none => s

/-! ### Selection (R103) -/

/-- The logical row that a record's migration moves (R103). -/
def FaultRecord.logicalRow (r : FaultRecord) : LogicalRow :=
  match r.logical with
  | some l => l
  | none => r.row.regular?.getD 0

/-- A candidate qualifies: its bank is FORMATTED and has a FREE spare (R103). -/
def qualifies (s : State) (r : FaultRecord) : Bool :=
  (s.bank r.bank).condition == .formatted && (s.remap r.bank).lowestFree?.isSome

/-- The first qualifying candidate in queue order (R103). -/
def selected? (s : State) : Option FaultRecord :=
  s.frt.queue.findSome? fun i => (s.frt.slot i).filter (qualifies s)

/-- The conditions under which MIG selects (R103): auto-migrate, IDLE, hold clear, READY. -/
def selectionDue (s : State) : Bool :=
  s.hpt.autoMigrate && s.mig.state == .idle && !s.mnt.hold && s.hpt.state == .ready

/-- A selection, judged as things stand when it is taken (R103, R104). -/
def autoSelect (s : State) : State :=
  if selectionDue s then
    match selected? s with
    | some r => startMigration r.bank r.logicalRow s
    | none => s
  else s

/-! ### Parking (R111, R113) -/

/-- A waiting copy request leaves its slot; the migration age becomes 0 (R23). -/
def withdrawCopy (b : Bank) (s : State) : State :=
  s.setBank b { s.bank b with migrationSlot := false, migrationAge := 0 }

/-- The stop condition arises (R111). -/
def park (s : State) : State :=
  match s.mig.state with
  | .idle => s
  | .parked _ _ => s
  | .copying b l .absent => setEngine (.parked b l) s
  | .copying b l .waiting => setEngine (.parked b l) (withdrawCopy b s)
  | .copying b l (.running _ abort) => setEngine (.copying b l (.running true abort)) s

/-- The stop condition ends (R113). -/
def unpark (s : State) : State :=
  match s.mig.state with
  | .idle => s
  | .parked b l => setEngine (.copying b l .absent) s
  | .copying _ _ .absent => s
  | .copying _ _ .waiting => s
  | .copying b l (.running _ abort) => setEngine (.copying b l (.running false abort)) s

/-! ### Ends (R107, R109, R116) -/

/-- MIG at the end of a migration: IDLE with its last-migration fields; MIGRATION_END is latched (R117). -/
def endMigration (v : LastMigration) (s : State) : State :=
  (s.setMig { state := .idle, last := some v }).latch .migrationEnd

/-- The commit of the PENDING entry `e` (R107). -/
def commitMigration (b : Bank) (l : LogicalRow) (e : RemapEntry) (s : State) : State :=
  endMigration ⟨.committed, b, l, e.restarts⟩
    ((s.setRemap b ((s.remap b).commit e)).setFrt s.frt.atCommit)

/-- The failure of the migration of the PENDING entry `e` (R109). -/
def failMigration (b : Bank) (l : LogicalRow) (e : RemapEntry) (s : State) : State :=
  endMigration ⟨if e.restarts = 3 then .failedRestarts else .failedNoSpare, b, l, e.restarts⟩
    ((s.setRemap b ((s.remap b).revert e .retired)).setFrt s.frt.atFailure)

/-- The application of an abort, the completion of its command apart (R116). -/
def applyAbort (b : Bank) (l : LogicalRow) (s : State) : State :=
  match (s.remap b).pending? with
  | some e =>
    endMigration ⟨.aborted, b, l, e.restarts⟩
      ((s.setRemap b ((s.remap b).revert e .free)).setFrt s.frt.atAbort)
  | none => s

/-! ### The end of a copy (R106–R109, R115) -/

/-- After a copy that leaves the migration in progress: PARKED if park pending was set (R106, R108). -/
def afterCopy (parkPending : Bool) (b : Bank) (l : LogicalRow) (s : State) : State :=
  setEngine (if parkPending then .parked b l else .copying b l .absent) s

/-- The restart of the migration on spare `t` (R108). -/
def restartMigration (parkPending : Bool) (b : Bank) (l : LogicalRow) (e : RemapEntry) (t : SpareIdx)
    (s : State) : State :=
  noteExhausted b (afterCopy parkPending b l (s.setRemap b ((s.remap b).restart e t)))

/-- A COPY LINE that ended COPIED for line `n` (R106, R107). -/
def copied (parkPending : Bool) (b : Bank) (l : LogicalRow) (e : RemapEntry) (n : LineNo)
    (s : State) : State :=
  if n.val < 31 then afterCopy parkPending b l (s.setRemap b ((s.remap b).advance e n))
  else commitMigration b l e s

/-- A COPY LINE that ended VERIFY_FAILED (R108, R109). -/
def verifyFailed (parkPending : Bool) (b : Bank) (l : LogicalRow) (e : RemapEntry) (s : State) : State :=
  match (s.remap b).lowestFree? with
  | some t =>
    if e.restarts.val < 3 then restartMigration parkPending b l e t s else failMigration b l e s
  | none => failMigration b l e s

/-- MIG receives the result of its copy of line `n`; abort pending goes before everything else (R115). -/
def copyEnds (n : LineNo) (verified : Bool) (s : State) : State :=
  match s.mig.state with
  | .copying b l (.running parkPending abortPending) =>
    if abortPending then completeCommand .done (applyAbort b l s)
    else
      match (s.remap b).pending? with
      | some e => if verified then copied parkPending b l e n s else verifyFailed parkPending b l e s
      | none => s
  | .copying _ _ .absent => s
  | .copying _ _ .waiting => s
  | .idle => s
  | .parked _ _ => s

end Sys2Proof.Machine
end

