-- ==== Sys2Proof/Machine/Patrol.lean ====
section
/-! DEFINITION. Patrol: the order of positions, the search, pass ends, the end and the withdrawal of a step
(Chapter 8). The arbiter's part in a step stands in Sequencer.lean. -/

namespace Sys2Proof.Machine

/-! ### Positions (R138) -/

/-- The number of a row of a bank in the order of R138: row, then bank. -/
def pairIndex (row : PhysRow) (bank : Bank) : Nat := row.val * 8 + bank.val

/-- How many rows of banks there are: 8208 × 8. -/
def pairCount : Nat := 65664

/-- The row of a number in the order of R138. -/
def pairRow (k : Nat) (h : k < pairCount) : PhysRow := ⟨k / 8, by simp only [pairCount] at h; omega⟩

/-- The bank of a number in the order of R138. -/
def pairBank (k : Nat) : Bank := ⟨k % 8, by omega⟩

/-- The first position of the row and bank numbered `k`, if there is one. -/
def positionAt (k : Nat) : Option Position :=
  if h : k < pairCount then some ⟨pairRow k h, pairBank k, 0⟩ else none

/-- The position after one, or none after the last position (R138). -/
def Position.next (p : Position) : Option Position :=
  if h : p.line.val < 31 then some { p with line := ⟨p.line.val + 1, by omega⟩ }
  else positionAt (pairIndex p.row p.bank + 1)

/-! ### Pass end (R143) -/

/-- The cursor moves past the last position: the counter rises, FRT decays, PASS_END is latched and the
cursor stands at the start (R143). -/
def passEnd (s : State) : State :=
  let pass := s.ptl.pass + 1
  ((s.setPtl { s.ptl with pass := pass, cursor := .start }).setFrt (s.frt.decay pass)).latch .passEnd

/-- The cursor moves on from a position, which is a pass end after the last one (R142). -/
def advanceCursor (p : Position) (s : State) : State :=
  match p.next with
  | some q => s.setPtl { s.ptl with cursor := q }
  | none => passEnd s

/-! ### The end of a step (R142) -/

/-- The outstanding step becomes NONE. -/
def forgetStep (s : State) : State := s.setPtl { s.ptl with step := .none }

/-- PTL receives the result of its step, a check outcome or DISCARDED: the step ends and the cursor moves on
unless a RESTART PATROL has marked the step (R142). -/
def stepEnds (s : State) : State :=
  match s.ptl.step with
  | .none => s
  | .waiting p => advanceCursor p (forgetStep s)
  | .running p marked => if marked then forgetStep s else advanceCursor p (forgetStep s)

/-- A waiting step leaves its slot without array access; the patrol age becomes 0 and the cursor stays (R23). -/
def withdrawStepAt (p : Position) (s : State) : State :=
  (forgetStep s).setBank p.bank { s.bank p.bank with patrolSlot := none, patrolAge := 0 }

/-- HOLD and retention entry withdraw a step WAITING in any bank (R146). -/
def withdrawStep (s : State) : State :=
  match s.ptl.step with
  | .waiting p => withdrawStepAt p s
  | .none => s
  | .running _ _ => s

/-- CLEAR BANK withdraws a step WAITING in its own bank (R145). -/
def withdrawStepOf (b : Bank) (s : State) : State :=
  match s.ptl.step with
  | .waiting p => if p.bank = b then withdrawStepAt p s else s
  | .none => s
  | .running _ _ => s

/-- RESTART PATROL: the cursor goes to the start; a waiting step is withdrawn, a running one marked (R147). -/
def restartCursor (s : State) : State :=
  match s.ptl.step with
  | .none => s.setPtl { s.ptl with cursor := .start }
  | .waiting p =>
    let s' := withdrawStepAt p s
    s'.setPtl { s'.ptl with cursor := .start }
  | .running p _ => s.setPtl { s.ptl with cursor := .start, step := .running p true }

/-! ### The search (R141) -/

/-- The search stops in a row of a bank: the bank is FORMATTED and the row is in use (R141). -/
def patrolled (s : State) (row : PhysRow) (bank : Bank) : Bool :=
  (s.bank bank).condition == .formatted && (s.remap bank).inUse row

/-- The first row of a bank at or after number `k` in which the search stops, in at most `fuel` rows. -/
def searchFrom (s : State) : Nat → Nat → Option Position
  | 0, _ => none
  | fuel + 1, k =>
    match positionAt k with
    | none => none
    | some p => if patrolled s p.row p.bank then some p else searchFrom s fuel (k + 1)

/-- The search from the cursor to the last position (R141): the cursor's own position first. -/
def searchAhead (s : State) : Option Position :=
  let c := s.ptl.cursor
  if patrolled s c.row c.bank then some c else searchFrom s pairCount (pairIndex c.row c.bank + 1)

/-- The search from the start (R141), after a pass end within it. -/
def searchAgain (s : State) : Option Position := searchFrom s pairCount 0

/-- Some bank is FORMATTED (R140). -/
def someFormatted (s : State) : Bool := allBanks.any fun b => (s.bank b).condition == .formatted

/-- The conditions under which an expiry of the step timer issues a step (R139, R140). -/
def stepDue (s : State) : Bool :=
  s.ptl.interval != 0 && s.ptl.step == .none && someFormatted s && s.hpt.state == .ready && !s.mnt.hold

end Sys2Proof.Machine
end

