-- ==== Sys2Proof/Machine/Requests.lean ====
section
/-! DEFINITION. Requests, line buffers and completions: the submit, the buffer window, eligibility for
dispatch, and completion (Chapters 3 and 4). -/

namespace Sys2Proof.Machine

/-! ### Register fields (Table 11-4) -/

/-- The bank field of REQ_B, MNT_ARG and RMP_SELECT: bits 2–0. -/
def bankField (w : Word) : Bank := (w.extractLsb' 0 3).toFin

/-- The logical row field of REQ_B and MNT_ARG: bits 17–4. -/
def rowField (w : Word) : Fin 16384 := (w.extractLsb' 4 14).toFin

/-- The line field of REQ_B: bits 24–20. -/
def lineField (w : Word) : LineNo := (w.extractLsb' 20 5).toFin

/-- The logical row of a row field, if it names one: 8192–16383 give BAD_ROW (R195). -/
def logicalRow? (f : Fin 16384) : Option LogicalRow := if h : f.val < 8192 then some ⟨f.val, h⟩ else none

/-- A write of REQ_A stores its four fields in the latch (R45). -/
def latchOf (w : Word) : RequestLatch :=
  { tag := w.extractLsb' 0 8
    kindCode := w.extractLsb' 8 2
    buffer := (w.extractLsb' 12 2).toFin
    mask := w.extractLsb' 16 8 }

/-- The kind that the latch names: 1 READ, 2 WRITE; 0 and 3 name none (R45, R195). -/
def RequestLatch.kind? (l : RequestLatch) : Option RequestKind :=
  if l.kindCode = 1#2 then some .read
  else if l.kindCode = 2#2 then some (.write l.mask)
  else none

/-! ### Line buffers -/

/-- A line buffer. -/
def Buffers.line (u : Buffers) (i : BufferIdx) : LineBuffer := u.lines[i]

/-- The buffers with one replaced. -/
def Buffers.setLine (u : Buffers) (i : BufferIdx) (v : LineBuffer) : Buffers :=
  { u with lines := u.lines.set i.val v i.isLt }

/-- The word index moved on by 1, from 7 to 0 (R56). -/
def Buffers.advance (u : Buffers) : Buffers := { u with index := u.index + 1 }

/-- A read of BUF_DATA (R56), refused for a LOCKED buffer (R58). -/
def readBufData (s : State) : State :=
  let line := s.buf.line s.buf.selected
  match line.state with
  | .host => (s.setReadData line.words[s.buf.index]).setBuf s.buf.advance
  | .locked => (s.setReadData 0).latch .bufferFault

/-- A write of BUF_DATA (R57), refused for a LOCKED buffer (R58). -/
def writeBufData (w : Word) (s : State) : State :=
  let line := s.buf.line s.buf.selected
  match line.state with
  | .host =>
    s.setBuf (s.buf.setLine s.buf.selected
      { line with words := line.words.set s.buf.index.val w s.buf.index.isLt }).advance
  | .locked => s.latch .bufferFault

/-! ### Submit (R46–R51) -/

/-- The states in which REQ takes requests (Table 3-2, check 1). -/
def takesRequests : ControllerState → Bool
  | .ready | .enteringRetention | .retained | .leavingRetention => true
  | .starting _ | .heldInReset | .restarting => false

/-- The request that a submit forms from the latch and the fields of the write (R46). -/
def formRequest (l : RequestLatch) (kind : RequestKind) (row : LogicalRow) (w : Word) : Request :=
  { tag := l.tag, kind := kind, bank := bankField w, row := row, line := lineField w, buffer := l.buffer }

/-- EMPTY_MASK: the kind is WRITE and no flag of the mask is set (Table 3-2, check 5). -/
def RequestKind.emptyMask : RequestKind → Bool
  | .read => false
  | .write mask => mask == 0#8

/-- The checks of Table 3-2 in order: the request, or the first failure. -/
def checkSubmit (s : State) (w : Word) : Except SubmitResult Request :=
  let l := s.req.latch
  if !takesRequests s.hpt.state then .error .notReady
  else if 8 ≤ s.req.held.length then .error .queueFull
  else
    match l.kind?, logicalRow? (rowField w) with
    | none, _ => .error .badKind
    | some _, none => .error .badRow
    | some kind, some row =>
      if kind.emptyMask then .error .emptyMask
      else if s.req.held.any fun h => h.request.tag == l.tag then .error .duplicateTag
      else if (s.buf.line l.buffer).state = .locked then .error .bufferBusy
      else .ok (formRequest l kind row w)

/-- An accepted submit: the request joins WAITING, its buffer is LOCKED, REQ_RESULT shows ACCEPTED (R51). -/
def acceptRequest (q : Request) (s : State) : State :=
  (s.setReq { s.req with
      held := s.req.held ++ [⟨q, .waiting⟩], result := .accepted, resultTag := q.tag }).setBuf
    (s.buf.setLine q.buffer { s.buf.line q.buffer with state := .locked })

/-- A rejected submit: REQ_RESULT and SUBMIT_REJECTED, and nothing else (R50). -/
def rejectRequest (r : SubmitResult) (s : State) : State :=
  (s.setReq { s.req with result := r, resultTag := s.req.latch.tag }).latch .submitRejected

/-- A write to REQ_B (R46). -/
def submitRequest (w : Word) (s : State) : State :=
  match checkSubmit s w with
  | .ok q => acceptRequest q s
  | .error r => rejectRequest r s

/-! ### Dispatch (R62) -/

/-- The number of requests in flight (R53). -/
def RequestQueue.inFlight (q : RequestQueue) : Nat := q.held.countP fun h => h.state == .inFlight

/-- A bank has a host request in flight (R62). -/
def RequestQueue.bankInFlight (q : RequestQueue) (b : Bank) : Bool :=
  q.held.any fun h => h.state == .inFlight && h.request.bank == b

/-- A held request is eligible: the four conditions of R62. -/
def eligible (s : State) (h : HeldRequest) : Bool :=
  h.state == .waiting && !s.req.bankInFlight h.request.bank &&
    (s.bank h.request.bank).condition != .clearing && s.hpt.state == .ready &&
    decide (s.req.inFlight + s.cpl.length < 8)

/-- The oldest eligible request (R62). -/
def oldestEligible? (s : State) : Option HeldRequest := s.req.held.find? (eligible s)

/-- The collection with the request of a tag IN_FLIGHT, in its place (R62). -/
def RequestQueue.launch (q : RequestQueue) (tag : BitVec 8) : RequestQueue :=
  { q with held := q.held.map fun h => if h.request.tag = tag then { h with state := .inFlight } else h }

/-! ### Completion (R70–R73) -/

/-- The kind a completion record shows (R73). -/
def RequestKind.shown : RequestKind → RecordKind
  | .read => .read
  | .write _ => .write

/-- The words of a buffer after a completion: a READ's words are replaced where the outcome gives some
(R71), a WRITE's stay (R54). -/
def completedWords (before : LineWords) (delivered : Option LineWords) : LineWords := delivered.getD before

/-- The completion record of a request (R73). -/
def completionOf (q : Request) (outcome : HostOutcome) (fromSpare : Bool) : Completion :=
  { tag := q.tag, kind := q.kind.shown, outcome := outcome, fromSpare := fromSpare, buffer := q.buffer }

/-- The completion of a request (R70): it leaves the collection, its buffer returns to HOST with the words
of R71, and its record is posted at the tail of the completion queue. -/
def completeRequest (q : Request) (outcome : HostOutcome) (fromSpare : Bool)
    (delivered : Option LineWords) (s : State) : State :=
  ((s.setReq { s.req with held := s.req.held.filter fun h => h.request.tag != q.tag }).setBuf
    (s.buf.setLine q.buffer
      { state := .host, words := completedWords (s.buf.line q.buffer).words delivered })).setCpl
    (s.cpl ++ [completionOf q outcome fromSpare])

/-- A write to CPL_POP removes the record at the head; it has no effect on an empty queue (R76). -/
def popCompletion (s : State) : State := s.setCpl s.cpl.tail

/-! ### Warm reset -/

/-- The buffers at a warm reset: all HOST, words kept, window at buffer 0, index 0 (R61). -/
def Buffers.atReset (u : Buffers) : Buffers :=
  { lines := Vector.ofFn fun i : BufferIdx => { state := .host, words := (u.line i).words }
    selected := 0
    index := 0 }

end Sys2Proof.Machine
end

