-- ==== Sys2Proof/Machine/Sequencer.lean ====
section
/-! DEFINITION. The bank sequencer: the arbiter's choice, the grants, retention at a bank, and what the end
of an operation hands on (Chapter 2). -/

namespace Sys2Proof.Machine

/-! ### The claims of a bank and their order (R25–R27, R36) -/

/-- The claims of a bank; refresh counts as urgent from a debt of 5 on (R25). -/
inductive Claim where
  | urgentRefresh
  | clear
  | host
  | migration
  | patrol
  | refresh
  deriving DecidableEq, Repr

/-- The claim stands (R23, R25). -/
def BankSection.waits (k : BankSection) : Claim → Bool
  | .urgentRefresh => decide (5 ≤ k.debt.val)
  | .clear => k.clearSlot.isSome
  | .host => k.hostSlot.isSome
  | .migration => k.migrationSlot
  | .patrol => k.patrolSlot.isSome
  | .refresh => decide (0 < k.debt.val)

/-- The claim is grantable in the bank's condition (R26, R36). -/
def Condition.grants : Condition → Claim → Bool
  | .formatted, _ => true
  | .clearing, .urgentRefresh | .clearing, .clear | .clearing, .host | .clearing, .refresh => true
  | .clearing, .migration | .clearing, .patrol => false
  | .unformatted, .urgentRefresh | .unformatted, .refresh => true
  | .unformatted, .clear | .unformatted, .host | .unformatted, .migration | .unformatted, .patrol => false

/-- Refresh, urgent or not. -/
def Claim.isRefresh : Claim → Bool
  | .urgentRefresh | .refresh => true
  | .clear | .host | .migration | .patrol => false

/-- The arbiter considers the claim in the controller's state and the bank's condition (R26, R42). -/
def BankSection.considers (k : BankSection) (st : ControllerState) (c : Claim) : Bool :=
  match st with
  | .ready => k.condition.grants c
  | .enteringRetention => k.hostSlot.isSome && k.condition.grants c
  | .heldInReset | .restarting => c.isRefresh
  | .starting _ | .retained | .leavingRetention => false

/-- The order of host, migration and patrol by their aging counts (Table 2-4). -/
def BankSection.agedOrder (k : BankSection) : List Claim :=
  if k.patrolAge = 64 then
    if k.migrationAge = 16 then [.patrol, .migration, .host] else [.patrol, .host, .migration]
  else
    if k.migrationAge = 16 then [.migration, .host, .patrol] else [.host, .migration, .patrol]

/-- The arbiter's order (R27); in CLEARING the host stands before the clear (R36). -/
def BankSection.claimOrder (k : BankSection) : List Claim :=
  if k.condition = .clearing then [.urgentRefresh, .host, .clear, .refresh]
  else .urgentRefresh :: .clear :: (k.agedOrder ++ [.refresh])

/-- The claim that the arbiter chooses (R26, R27). -/
def BankSection.choice (k : BankSection) (st : ControllerState) : Option Claim :=
  k.claimOrder.find? fun c => k.waits c && k.considers st c

/-! ### Grants (R28–R32) -/

/-- An aging count raised by 1 while its requester waits (R28). -/
def ageMigration (k : BankSection) : Fin 17 :=
  if k.migrationSlot then
    if h : k.migrationAge.val < 16 then ⟨k.migrationAge.val + 1, by omega⟩ else k.migrationAge
  else k.migrationAge

/-- An aging count raised by 1 while its requester waits (R28). -/
def agePatrol (k : BankSection) : Fin 65 :=
  if k.patrolSlot.isSome then
    if h : k.patrolAge.val < 64 then ⟨k.patrolAge.val + 1, by omega⟩ else k.patrolAge
  else k.patrolAge

/-- The operation that a host request becomes at its grant, with the rows, the from-spare flag and the
buffer's words that its grant fixes (R29, R68, R69). -/
def hostOperation (q : Request) (rows : Rows) (words : LineWords) : Operation :=
  match q.kind with
  | .read => .readLine q rows rows.fromSpareRead
  | .write mask =>
    if mask = 0xFF#8 then .writeLine q rows rows.fromSpareWrite words
    else .mergeLine q rows rows.fromSpareWrite mask words

/-- The grant of the host slot (R28, R29). -/
def grantHost (b : Bank) (q : Request) (s : State) : State :=
  let k := s.bank b
  let rows := (s.remap b).translate q.row q.line
  s.setBank b { k with
    phase := .busy (hostOperation q rows (s.buf.line q.buffer).words) .deliver
    hostSlot := none
    migrationAge := ageMigration k
    patrolAge := agePatrol k }

/-- The copy of the PENDING entry's cursor line (R30, R88). -/
def copyOperation (e : RemapEntry) : Operation :=
  match e.state with
  | .pending _ t cursor _ => .copyLine e.row e.source t cursor
  | .active c => .copyLine e.row e.source c 0

/-- MIG's copy request becomes RUNNING (R105). -/
def runCopy (s : State) : State :=
  match s.mig.state with
  | .copying b l _ => setEngine (.copying b l (.running false false)) s
  | .idle => s
  | .parked _ _ => s

/-- The grant of the migration slot (R28, R30); a bank with a copy request holds the PENDING entry. -/
def grantCopy (b : Bank) (s : State) : State :=
  match (s.remap b).pending? with
  | some e =>
    let k := s.bank b
    runCopy (s.setBank b { k with
      phase := .busy (copyOperation e) .deliver
      migrationSlot := false
      migrationAge := 0
      patrolAge := agePatrol k })
  | none => s

/-- PTL's step becomes RUNNING, its restarted mark clear (R142). -/
def runStep (s : State) : State :=
  match s.ptl.step with
  | .waiting p => s.setPtl { s.ptl with step := .running p false }
  | .none => s
  | .running _ _ => s

/-- The grant of a patrol step whose row is in use (R28, R31). -/
def grantStep (b : Bank) (p : RowLine) (s : State) : State :=
  let k := s.bank b
  let m := s.remap b
  runStep (s.setBank b { k with
    phase := .busy (.scrubLine (m.scrubRows p.row p.line) p.line (m.logicalOf p.row)) .deliver
    patrolSlot := none
    patrolAge := 0 })

/-- The grant of the clear slot (R32). -/
def grantClear (b : Bank) (p : RowLine) (s : State) : State :=
  s.setBank b { s.bank b with phase := .busy (.clearLine p.row p.line) .deliver, clearSlot := none }

/-- The grant of refresh (R32). -/
def grantRefresh (b : Bank) (s : State) : State :=
  s.setBank b { s.bank b with phase := .busy .refresh .deliver }

/-- The grant of the chosen claim of a bank. -/
def grant (b : Bank) (c : Claim) (s : State) : State :=
  match c with
  | .urgentRefresh => grantRefresh b s
  | .refresh => grantRefresh b s
  | .clear =>
    match (s.bank b).clearSlot with
    | some p => grantClear b p s
    | none => s
  | .host =>
    match (s.bank b).hostSlot with
    | some q => grantHost b q s
    | none => s
  | .migration => grantCopy b s
  | .patrol =>
    match (s.bank b).patrolSlot with
    | some p => grantStep b p s
    | none => s

/-- The choice of an IDLE bank, its step taken as not stale (R26). -/
def serve (b : Bank) (s : State) : State :=
  match (s.bank b).choice s.hpt.state with
  | some c => grant b c s
  | none => s

/-! ### Stale steps (R33) -/

/-- The choice of the bank falls on a patrol step whose row is not in use (R33). -/
def staleChosen (b : Bank) (s : State) : Bool :=
  (s.bank b).choice s.hpt.state == some .patrol &&
    match (s.bank b).patrolSlot with
    | some p => !(s.remap b).inUse p.row
    | none => false

/-- A stale step is discarded: it leaves its slot, the patrol age becomes 0, and PTL receives DISCARDED (R33). -/
def discardStep (b : Bank) (s : State) : State :=
  stepEnds (s.setBank b { s.bank b with patrolSlot := none, patrolAge := 0 })

/-- The arbiter of a bank (R26): an IDLE bank grants one claim, after discarding a stale step if its choice
falls on one (R33). -/
def arbitrate (b : Bank) (s : State) : State :=
  if (s.bank b).phase = .idle then
    if staleChosen b s then serve b (discardStep b s) else serve b s
  else s

/-! ### Retention at a bank (R38) -/

/-- Every bank is RETAINED. -/
def allRetained (s : State) : Bool := allBanks.all fun b => (s.bank b).phase == .retained

/-- The last bank has entered RETAINED: the controller is RETAINED, the refresh timer stops and ENTER
RETENTION completes with DONE (R38, R180). -/
def enterRetained (s : State) : State :=
  completeCommand .done ((s.setHpt { s.hpt with state := .retained }).setRefreshTimer .stopped)

/-- A bank enters RETAINED with its debt set to 0; the eighth one ends the entry (R38). -/
def retainBank (b : Bank) (s : State) : State :=
  let s' := s.setBank b { s.bank b with phase := .retained, debt := 0 }
  if allRetained s' then enterRetained s' else s'

/-- During retention entry an IDLE bank with an empty host slot enters RETAINED (R38). -/
def mayRetain (b : Bank) (s : State) : Bool :=
  s.hpt.state == .enteringRetention && (s.bank b).phase == .idle && (s.bank b).hostSlot.isNone

/-- What an IDLE bank does next: it enters RETAINED during retention entry, or its arbiter chooses. -/
def settleBank (b : Bank) (s : State) : State :=
  if mayRetain b s then retainBank b s else arbitrate b s

/-! ### The end of an operation (R34) -/

/-- The bank returns to IDLE. -/
def idleBank (b : Bank) (s : State) : State := s.setBank b { s.bank b with phase := .idle }

/-- A notice, where the operation sends one. -/
def sendNotice? (n : Option Notice) (s : State) : State :=
  match n with
  | some n => sendNotice n s
  | none => s

/-- The end of an operation once its line effects are complete (R34): with DELIVER the result goes to its
requester (`deliver`), the bank settles, and the notice and report follow, taking the pass counter as the
happening leaves it (R144); with DISCARD nothing is handed on (R42). -/
def endOperation (b : Bank) (d : Disposition) (deliver : State → State) (n : Option Notice)
    (s : State) : State :=
  match d with
  | .deliver => sendNotice? n (settleBank b (deliver (idleBank b s)))
  | .discard => settleBank b (idleBank b s)

/-- The notice of a read of an in-use row (R11): CORRECTED and UNCORRECTABLE send one. -/
def noticeOf (b : Bank) (row : PhysRow) (l : LogicalRow) (n : LineNo) (reader : Reader) :
    CheckOutcome → Option Notice
  | .clean => none
  | .poisoned => none
  | .corrected _ => some ⟨b, row, l, n, false, reader⟩
  | .uncorrectable => some ⟨b, row, l, n, true, reader⟩

/-! ### Line effects and results of the operations (1.8) -/

/-- The line effects of READ LINE and SCRUB LINE after their read: a corrected write-back to the read row,
poison in every write row, or nothing (R13, R16). -/
def repairLine (b : Bank) (rows : Rows) (n : LineNo) (r : ReadResult) (s : State) : State :=
  match r.outcome with
  | .clean => s
  | .corrected _ => s.writeData b rows.source n r.words
  | .uncorrectable => s.poisonRows b rows n
  | .poisoned => s

/-- The outcome of a READ request (R13). -/
def readOutcome : CheckOutcome → HostOutcome
  | .clean => .ok
  | .corrected i => .corrected i
  | .uncorrectable => .uncorrectable
  | .poisoned => .poisoned

/-- The end of READ LINE (R13). -/
def endRead (b : Bank) (q : Request) (rows : Rows) (fromSpare : Bool) (d : Disposition)
    (s : State) : State :=
  let r := s.readResult b rows.source q.line
  endOperation b d (completeRequest q (readOutcome r.outcome) fromSpare (some r.words))
    (noticeOf b rows.source q.row q.line .hostRead r.outcome)
    (repairLine b rows q.line r s.countRead)

/-- The end of WRITE LINE (R14). -/
def endWrite (b : Bank) (q : Request) (rows : Rows) (fromSpare : Bool) (words : LineWords)
    (d : Disposition) (s : State) : State :=
  endOperation b d (completeRequest q .ok fromSpare none) none (s.writeDataRows b rows q.line words)

/-- The merged line: the words that the mask selects from the buffer, the others as delivered (R15). -/
def mergeWords (mask : BitVec 8) (buffer delivered : LineWords) : LineWords :=
  Vector.ofFn fun i : WordIdx => if mask.getLsbD i.val then buffer[i] else delivered[i]

/-- The line effects of MERGE LINE after its read (R15). -/
def mergeLineEffect (b : Bank) (rows : Rows) (n : LineNo) (mask : BitVec 8) (words : LineWords)
    (r : ReadResult) (s : State) : State :=
  match r.outcome with
  | .clean => s.writeDataRows b rows n (mergeWords mask words r.words)
  | .corrected _ => s.writeDataRows b rows n (mergeWords mask words r.words)
  | .uncorrectable => s.poisonRows b rows n
  | .poisoned => s

/-- The outcome of a partial WRITE (R15). -/
def mergeOutcome : CheckOutcome → HostOutcome
  | .clean => .merged
  | .corrected i => .mergeCorrected i
  | .uncorrectable => .dataLost
  | .poisoned => .dataLost

/-- The end of MERGE LINE (R15). -/
def endMerge (b : Bank) (q : Request) (rows : Rows) (fromSpare : Bool) (mask : BitVec 8)
    (words : LineWords) (d : Disposition) (s : State) : State :=
  let r := s.readResult b rows.source q.line
  endOperation b d (completeRequest q (mergeOutcome r.outcome) fromSpare none)
    (noticeOf b rows.source q.row q.line .hostMerge r.outcome)
    (mergeLineEffect b rows q.line mask words r s.countRead)

/-- The end of SCRUB LINE (R16). -/
def endScrub (b : Bank) (rows : Rows) (n : LineNo) (l : LogicalRow) (d : Disposition)
    (s : State) : State :=
  let r := s.readResult b rows.source n
  endOperation b d stepEnds (noticeOf b rows.source l n .patrol r.outcome)
    (repairLine b rows n r s.countRead)

/-- The line effects of the first part of COPY LINE after its source read (R17). -/
def copyLineEffect (b : Bank) (source : PhysRow) (target : SpareIdx) (n : LineNo) (r : ReadResult)
    (s : State) : State :=
  match r.outcome with
  | .clean => s.writeData b target.physical n r.words
  | .corrected _ => s.writeData b target.physical n r.words
  | .uncorrectable => (s.writePoison b source n).writePoison b target.physical n
  | .poisoned => s.writePoison b target.physical n

/-- The outcome that the verify read of COPY LINE expects (R17). -/
def expectedVerify : CheckOutcome → CheckOutcome
  | .clean => .clean
  | .corrected _ => .clean
  | .uncorrectable => .poisoned
  | .poisoned => .poisoned

/-- The end of COPY LINE: source read, write of the target line, the changes that strike it, verify read
(R17, R18). R18 says that a change between the write and the verify read makes the verify fail, and also that
the verify compares outcomes alone, where R4 and R7 let a struck line read as expected; the model goes by the
comparison of outcomes (log entry 19). -/
def endCopy (b : Bank) (l : LogicalRow) (source : PhysRow) (target : SpareIdx) (n : LineNo)
    (struck : List BitPos) (d : Disposition) (s : State) : State :=
  let r := s.readResult b source n
  let s' := (copyLineEffect b source target n r s.countRead).strike b target.physical n struck
  let v := s'.readResult b target.physical n
  endOperation b d (copyEnds n (decide (v.outcome = expectedVerify r.outcome)))
    (noticeOf b source l n .copy r.outcome) s'.countRead

/-- The end of CLEAR LINE (R19). -/
def endClear (b : Bank) (row : PhysRow) (n : LineNo) (d : Disposition) (s : State) : State :=
  endOperation b d (clearLineEnds b ⟨row, n⟩) none (s.writeData b row n .zero)

/-- A refresh debt lowered by 1 (R20). -/
def lowerDebt (debt : Fin 9) : Fin 9 := ⟨debt.val - 1, by omega⟩

/-- A refresh debt raised by 1; no debt exceeds 8 (R24, R25). -/
def raiseDebt (debt : Fin 9) : Fin 9 := if h : debt.val < 8 then ⟨debt.val + 1, by omega⟩ else debt

/-- The end of REFRESH: its debt is lowered whatever its disposition (R20, R34). -/
def endRefresh (b : Bank) (d : Disposition) (s : State) : State :=
  endOperation b d id none (s.setBank b { s.bank b with debt := lowerDebt (s.bank b).debt })

/-! ### Placing claims -/

/-- REQ dispatches a request (R62): IN_FLIGHT, and in the host slot of its bank, or answered
NOT_FORMATTED at that same happening by an UNFORMATTED bank (R37, R67). -/
def dispatchRequest (q : Request) (s : State) : State :=
  let s' := s.setReq (s.req.launch q.tag)
  if (s.bank q.bank).condition = .unformatted then completeRequest q .notFormatted false none s'
  else arbitrate q.bank (s'.setBank q.bank { s'.bank q.bank with hostSlot := some q })

/-- MIG places a copy request in the migration slot of its bank (R105). -/
def placeCopy (b : Bank) (l : LogicalRow) (s : State) : State :=
  arbitrate b
    (setEngine (.copying b l .waiting) (s.setBank b { s.bank b with migrationSlot := true }))

/-- The bank clear places a line in the clear slot of its bank (R176). -/
def placeClear (b : Bank) (p : RowLine) (s : State) : State :=
  arbitrate b (s.setBank b { s.bank b with clearSlot := some p })

/-- PTL places a step: the cursor, the patrol slot and the outstanding step (R141). -/
def placeStep (p : Position) (s : State) : State :=
  let s' := s.setPtl { s.ptl with cursor := p, step := .waiting p }
  arbitrate p.bank (s'.setBank p.bank { s'.bank p.bank with patrolSlot := some ⟨p.row, p.line⟩ })

/-- The search and the issue of a step (R141): where the search moves past the last position, the pass end
comes first and the search goes on from the start. -/
def issueStep (s : State) : State :=
  match searchAhead s with
  | some p => placeStep p s
  | none =>
    match searchAgain s with
    | some p => placeStep p (passEnd s)
    | none => passEnd s

/-- The refresh debt of every bank that is not RETAINED rises by 1 (R24). -/
def chargeRefresh (k : BankSection) : BankSection :=
  if k.phase = .retained then k else { k with debt := raiseDebt k.debt }

/-- An expiry of the refresh timer: the debts rise, and each IDLE bank's arbiter chooses (R24, R26). -/
def refreshExpiry (s : State) : State :=
  allBanks.foldl (fun t b => arbitrate b t) (s.mapBanks chargeRefresh)

end Sys2Proof.Machine
end

