-- ==== Sys2Proof/Machine/Store.lean ====
section
/-! DEFINITION. The repair store: slots, burn attempts and their ends (9.1, 9.2). -/

namespace Sys2Proof.Machine

/-- A slot of the store. -/
def RepairStore.slot (p : RepairStore) (i : Fin 48) : StoreSlot := p.slots[i]

/-- The store with a slot set. -/
def RepairStore.setSlot (p : RepairStore) (i : Fin 48) (v : StoreSlot) : RepairStore :=
  { p with slots := p.slots.set i.val v i.isLt }

/-- The slot holds nothing (R151). -/
def StoreSlot.isBlank : StoreSlot → Bool
  | .blank => true
  | .written _ _ _ => false
  | .bad => false

/-- The slot holds a verified repair (R151). -/
def StoreSlot.isWritten : StoreSlot → Bool
  | .blank => false
  | .written _ _ _ => true
  | .bad => false

/-- The slot was begun and not verified (R151). -/
def StoreSlot.isBad : StoreSlot → Bool
  | .blank => false
  | .written _ _ _ => false
  | .bad => true

/-- The lowest-numbered BLANK slot (R154). -/
def RepairStore.lowestBlank? (p : RepairStore) : Option (Fin 48) :=
  (List.finRange 48).find? fun i => (p.slot i).isBlank

/-- An attempt begins on a slot: its begun marker makes it BAD (R154). -/
def RepairStore.beginAttempt (p : RepairStore) (burn : Burn) : RepairStore :=
  { p.setSlot burn.slot .bad with burn := some burn }

/-- The verify passes: the slot is WRITTEN, RPS is IDLE, and the origin-change claim gives DONE or
SUPERSEDED (R94, R156). -/
def burnPasses (u : Burn) (s : State) : State :=
  let s' := s.setRps { s.rps.setSlot u.slot (.written u.bank u.row u.spare) with burn := none }
  if (s'.remap u.bank).burnMatches u.row u.spare then
    completeBurn .done u.slot (s'.setRemap u.bank ((s'.remap u.bank).makePersistent u.row))
  else completeBurn .superseded u.slot s'

/-- The burn fails: RPS is IDLE and makes no claim (R155). -/
def burnFails (u : Burn) (s : State) : State :=
  completeBurn .failed u.slot (s.setRps { s.rps with burn := none })

/-- The verify fails: the next attempt begins on the lowest BLANK slot, or the burn fails (R155). -/
def attemptFails (u : Burn) (s : State) : State :=
  match s.rps.lowestBlank? with
  | some i =>
    if u.attempt.val < 3 then s.setRps (s.rps.beginAttempt { u with attempt := u.attempt + 1, slot := i })
    else burnFails u s
  | none => burnFails u s

/-- The end of the attempt in progress, if there is one (R155, R156). -/
def attemptEnds (passed : Bool) (s : State) : State :=
  match s.rps.burn with
  | some u => if passed then burnPasses u s else attemptFails u s
  | none => s

/-- The store at a warm reset: a burn ends without a result and its slot stays BAD; RPS_SELECT names slot 0
(R152, R158, R159). -/
def RepairStore.atReset (p : RepairStore) : RepairStore := { p with burn := none, select := 0 }

end Sys2Proof.Machine
end

