-- ==== Sys2Proof/Machine/Maintenance.lean ====
section
/-! DEFINITION. What each maintenance command does when it is taken: its checks in order, its effect and its
completion (Chapters 6, 9 and 10). Each takes the captured argument and the state with the unit RUNNING. -/

namespace Sys2Proof.Machine

/-- CLEAR BANK begins (R175). -/
def beginClear (b : Bank) (s : State) : State :=
  let s' := withdrawStepOf b s
  let t := s'.setBank b { s'.bank b with condition := .clearing }
  (t.setFrt (t.frt.clearBank b)).setMnt { t.mnt with clear := some ⟨b, ⟨0, 0⟩⟩ }

/-- The retention phase is not NONE (Table 10-1). -/
def inRetention : ControllerState → Bool
  | .enteringRetention | .retained | .leavingRetention => true
  | .starting _ | .heldInReset | .restarting | .ready => false

/-- CLEAR BANK: RETAINED, BANK_BUSY, or accepted and RUNNING (R175). -/
def clearBankBody (a : MntArg) (s : State) : State :=
  if inRetention s.hpt.state then completeCommand .retained s
  else if (s.remap a.bank).pending?.isSome then completeCommand .bankBusy s
  else beginClear a.bank s

/-- The row's remap entry is PENDING. -/
def rowPending (m : BankRemap) (l : LogicalRow) : Bool :=
  match m.entry? l with
  | some e => e.isPending
  | none => false

/-- MIGRATE ROW: NOT_FORMATTED, BAD_ROW, ENGINE_BUSY, ROW_BUSY, NO_SPARE, or the start with DONE (R173). -/
def migrateRowBody (a : MntArg) (s : State) : State :=
  if (s.bank a.bank).condition ≠ .formatted then completeCommand .notFormatted s
  else
    match logicalRow? a.rowField with
    | none => completeCommand .badRow s
    | some l =>
      if s.mig.state ≠ .idle then completeCommand .engineBusy s
      else if rowPending (s.remap a.bank) l then completeCommand .rowBusy s
      else if (s.remap a.bank).lowestFree? = none then completeCommand .noSpare s
      else completeCommand .done (startMigration a.bank l s)

/-- ABORT MIGRATION: NO_MIGRATION, applied at once with DONE, or pending on a running copy (R114, R115). -/
def abortMigrationBody (_a : MntArg) (s : State) : State :=
  match s.mig.state with
  | .idle => completeCommand .noMigration s
  | .parked b l => completeCommand .done (applyAbort b l s)
  | .copying b l .absent => completeCommand .done (applyAbort b l s)
  | .copying b l .waiting => completeCommand .done (applyAbort b l (withdrawCopy b s))
  | .copying b l (.running parkPending _) => setEngine (.copying b l (.running parkPending true)) s

/-- The burn of an ACTIVE, VOLATILE entry on spare `i`: STORE_FULL, or attempt 1 begins (R153, R154). -/
def beginBurn (b : Bank) (l : LogicalRow) (i : SpareIdx) (s : State) : State :=
  match s.rps.lowestBlank? with
  | none => completeCommand .storeFull s
  | some slot => s.setRps (s.rps.beginAttempt ⟨b, l, i, 1, slot⟩)

/-- BURN ROW: BAD_ROW, NOT_REMAPPED, ROW_BUSY, ALREADY_PERSISTENT, STORE_FULL, or RUNNING (R153, R174). -/
def burnRowBody (a : MntArg) (s : State) : State :=
  match logicalRow? a.rowField with
  | none => completeCommand .badRow s
  | some l =>
    match (s.remap a.bank).entry? l with
    | none => completeCommand .notRemapped s
    | some e =>
      match e.state with
      | .pending _ _ _ _ => completeCommand .rowBusy s
      | .active i =>
        if e.origin = .persistent then completeCommand .alreadyPersistent s
        else beginBurn a.bank l i s

/-- The hold set or cleared. -/
def setHold (v : Bool) (s : State) : State := s.setMnt { s.mnt with hold := v }

/-- HOLD (R178): where it sets the hold in READY, the engine parks and a waiting step is withdrawn. -/
def holdBody (_a : MntArg) (s : State) : State :=
  completeCommand .done
    (if s.mnt.hold then s
     else if s.hpt.state = .ready then withdrawStep (park (setHold true s))
     else setHold true s)

/-- RELEASE (R179): where it clears the hold in READY, the engine resumes. -/
def releaseBody (_a : MntArg) (s : State) : State :=
  completeCommand .done
    (if s.mnt.hold then
      if s.hpt.state = .ready then unpark (setHold false s) else setHold false s
     else s)

/-- Each bank that is IDLE with an empty host slot enters RETAINED at the start of retention entry (R38). -/
def retainIdleBanks (s : State) : State :=
  allBanks.foldl (fun t b => if mayRetain b t then retainBank b t else t) s

/-- The start of retention entry (R180): the controller is ENTERING_RETENTION, the engine parks unless the
hold has parked it, a waiting step is withdrawn, and idle banks enter RETAINED. -/
def enterRetention (s : State) : State :=
  let s' := s.setHpt { s.hpt with state := .enteringRetention }
  retainIdleBanks (withdrawStep (if s.mnt.hold then s' else park s'))

/-- ENTER RETENTION: ALREADY_RETAINED, or accepted in READY (R180). -/
def enterRetentionBody (_a : MntArg) (s : State) : State :=
  if inRetention s.hpt.state then completeCommand .alreadyRetained s else enterRetention s

/-- A bank that leaves RETAINED for IDLE with debt 0 (R40). -/
def leaveRetained (k : BankSection) : BankSection :=
  if k.phase = .retained then { k with phase := .idle, debt := 0 } else k

/-- EXIT RETENTION: NOT_RETAINED, or LEAVING with every bank IDLE (R182). -/
def exitRetentionBody (_a : MntArg) (s : State) : State :=
  if inRetention s.hpt.state then
    (s.setHpt { s.hpt with state := .leavingRetention }).mapBanks leaveRetained
  else completeCommand .notRetained s

/-- The end of retention exit: READY, the refresh timer starts, EXIT RETENTION completes with DONE, and a
parked migration resumes if the hold is clear (R113, R182). The event READY is not latched. -/
def finishExit (s : State) : State :=
  let s' := completeCommand .done ((s.setHpt { s.hpt with state := .ready }).setRefreshTimer .running)
  if s'.mnt.hold then s' else unpark s'

/-- DROP RECORD: NO_RECORD, ROW_BUSY, or the record is removed with DONE (R132, R174). -/
def dropRecordBody (a : MntArg) (s : State) : State :=
  match s.frt.slot a.index with
  | none => completeCommand .noRecord s
  | some r =>
    if r.state = .migrating then completeCommand .rowBusy s
    else completeCommand .done (s.setFrt (s.frt.removeSlot a.index))

/-- RESTART PATROL (R147, R183). -/
def restartPatrolBody (_a : MntArg) (s : State) : State := completeCommand .done (restartCursor s)

/-- A code that names no command is refused with BAD_COMMAND (R171). -/
def badCommandBody (_a : MntArg) (s : State) : State := completeCommand .badCommand s

/-- The body of a command. -/
def commandBody : MntCommand → MntArg → State → State
  | .clearBank => clearBankBody
  | .migrateRow => migrateRowBody
  | .abortMigration => abortMigrationBody
  | .burnRow => burnRowBody
  | .hold => holdBody
  | .release => releaseBody
  | .enterRetention => enterRetentionBody
  | .exitRetention => exitRetentionBody
  | .dropRecord => dropRecordBody
  | .restartPatrol => restartPatrolBody
  | .unknown _ => badCommandBody

/-- A write of a command code to MNT_CMD (R170, R171). -/
def writeCommand (code : BitVec 8) (s : State) : State :=
  takeCommand (.ofCode code) (commandBody (.ofCode code)) s

end Sys2Proof.Machine
end

