-- ==== Sys2Proof/Machine/Start.lean ====
section
/-! DEFINITION. Power, the RST input, controller start and warm reset (9.4 and the resets of every chapter). -/

namespace Sys2Proof.Machine

/-- Every block at its power-on values. The repair store keeps its slots without power (R152), the level of
the RST input and the waiting commands are not the part's own, and the count of line reads runs on. -/
def powerOnValues (s : State) : State :=
  { State.reset with
    powered := s.powered
    rstAsserted := s.rstAsserted
    rps := { State.reset.rps with slots := s.rps.slots }
    lineReads := s.lineReads
    pending := s.pending }

/-- POWER_ON of a part without power (R164). -/
def applyPower (s : State) : State :=
  if s.powered then s else { powerOnValues s with powered := true }

/-- POWER_LOSS: every line is lost (R2), and every block but the repair store with it (log entry 9). -/
def losePower (s : State) : State :=
  if s.powered then { powerOnValues s with powered := false } else s

/-- Start begins (or begins again) from its beginning: STARTING in LOADING, no entries, every spare FREE
(R164, R166). -/
def beginStart (s : State) : State :=
  (clearRemap s).setHpt { s.hpt with state := .starting .loading }

/-- A bank section at the assertion of RST after start (R42). -/
def resetBank (k : BankSection) : BankSection :=
  { k with
    phase := match k.phase with
      | .idle => .idle
      | .busy op _ => .busy op .discard
      | .retained => .idle
    condition := if k.condition = .clearing then .unformatted else k.condition
    hostSlot := none
    migrationSlot := false
    patrolSlot := none
    clearSlot := none
    migrationAge := 0
    patrolAge := 0 }

/-- The assertion of RST after start: HELD_IN_RESET, and every block at its warm-reset values (R42, R61, R79,
R97, R121, R137, R150, R158, R167, R168, R184, R189, R193). The array, the repair store's slots and the
refresh debts stay. -/
def warmReset (s : State) : State :=
  { s with
    hpt := { state := .heldInReset, threshold := 4, autoMigrate := false }
    req := .initial
    buf := s.buf.atReset
    cpl := []
    banks := (s.mapBanks resetBank).banks
    refreshTimer := .running
    rmp := (resetRemap s).rmp
    mig := { state := .idle, last := none }
    frt := s.frt.atReset
    ptl := .initial
    rps := s.rps.atReset
    mnt := .initial
    evt := { latched := 0, mask := 0 }
    uer := { reports := [], overflow := false } }

/-- The controller is in STARTING. -/
def inStart : ControllerState → Bool
  | .starting _ => true
  | .heldInReset | .restarting | .ready | .enteringRetention | .retained | .leavingRetention => false

/-- An assertion of RST that the part takes (R166, R167). Without power only the input's level changes. -/
def assertRst (s : State) : State :=
  if s.rstAsserted then s
  else
    let s' := { s with rstAsserted := true }
    if s.powered then if inStart s.hpt.state then beginStart s' else warmReset s' else s'

/-- The release of RST (R166, R167): start begins again, or HELD_IN_RESET becomes RESTARTING. -/
def releaseRst (s : State) : State :=
  if s.rstAsserted then
    let s' := { s with rstAsserted := false }
    if s.powered then
      match s.hpt.state with
      | .starting _ => beginStart s'
      | .heldInReset => s'.setHpt { s'.hpt with state := .restarting }
      | .restarting | .ready | .enteringRetention | .retained | .leavingRetention => s'
    else s'
  else s

/-- The end of LOADING (R160): the load has run, and the sub-phase is ARRAY_INIT. It does not come while RST
is held (R166) or without power. -/
def endLoading (s : State) : State :=
  if s.powered && !s.rstAsserted && s.hpt.state == .starting .loading then
    (loadStore s).setHpt { s.hpt with state := .starting .arrayInit }
  else s

/-- The controller becomes READY and the event READY is latched (R164, R167). -/
def becomeReady (s : State) : State := (s.setHpt { s.hpt with state := .ready }).latch .ready

/-- The end of ARRAY_INIT (R164): READY, and the refresh timer starts. -/
def endArrayInit (s : State) : State :=
  if s.powered && !s.rstAsserted && s.hpt.state == .starting .arrayInit then
    (becomeReady s).setRefreshTimer .running
  else s

/-- The end of RESTARTING, 5 µs after the release of RST (R167). -/
def endRestarting (s : State) : State :=
  if s.powered && !s.rstAsserted && s.hpt.state == .restarting then becomeReady s else s

end Sys2Proof.Machine
end

