-- ==== Sys2Proof/Machine/Operands.lean ====
section
/-! DEFINITION. The register window: the fields of written words, what a write at each offset does, and what
a read of each register returns (11.4 to 11.6). -/

namespace Sys2Proof.Machine

/-! ### Written fields (Table 11-4) -/

/-- The content of MNT_ARG from a written word (R169). -/
def argOf (w : Word) : MntArg :=
  { bank := bankField w, rowField := rowField w, index := (w.extractLsb' 24 5).toFin }

/-- A write of REQ_A (R45). -/
def storeLatch (w : Word) (s : State) : State := s.setReq { s.req with latch := latchOf w }

/-- A write of MNT_ARG (R169). -/
def storeArg (w : Word) (s : State) : State := s.setMnt { s.mnt with arg := argOf w }

/-- A write of BUF_SELECT: the buffer in bits 1–0, the word index in bits 10–8 (R55). -/
def storeBufSelect (w : Word) (s : State) : State :=
  s.setBuf { s.buf with selected := (w.extractLsb' 0 2).toFin, index := (w.extractLsb' 8 3).toFin }

/-- A write of RMP_SELECT: the bank in bits 2–0, the logical row in bits 16–4 (R96). -/
def storeRmpSelect (w : Word) (s : State) : State :=
  s.setRmp { s.rmp with selectBank := bankField w, selectRow := (w.extractLsb' 4 13).toFin }

/-- A write of FRT_SELECT: the slot in bits 4–0; the holding words stay (R134, R196). -/
def storeFrtSelect (w : Word) (s : State) : State :=
  s.setFrt { s.frt with select := (w.extractLsb' 0 5).toFin }

/-- A write of RPS_SELECT: the index in bits 5–0 (R159). -/
def storeRpsSelect (w : Word) (s : State) : State :=
  s.setRps { s.rps with select := (w.extractLsb' 0 6).toFin }

/-- A write of HPT_CONFIG: the threshold in bits 3–0, auto-migrate in bit 8 (R168). -/
def storeConfig (w : Word) (s : State) : State :=
  s.setHpt { s.hpt with threshold := (w.extractLsb' 0 4).toFin, autoMigrate := w.getLsbD 8 }

/-- A write of PTL_INTERVAL: the interval in bits 15–0; the step and the cursor stay (R139). -/
def storeInterval (w : Word) (s : State) : State :=
  s.setPtl { s.ptl with interval := w.extractLsb' 0 16 }

/-- The effect of a write at an open-window offset of a register with no behaviour of its own; read-only and
unlisted offsets are ignored (R194). -/
def plainWrite (offset : BitVec 8) (w : Word) (s : State) : State :=
  if offset = 0x20 then storeLatch w s
  else if offset = 0x38 then storeBufSelect w s
  else if offset = 0x44 then storeArg w s
  else if offset = 0x60 then storeFrtSelect w s
  else if offset = 0x80 then storeRmpSelect w s
  else if offset = 0x90 then storeRpsSelect w s
  else s

/-- The effect of a write at an open-window offset. A register whose write is a row of the table of its own
does what that row does; any other offset is a plain write. -/
def writeRegister (offset : BitVec 8) (w : Word) (s : State) : State :=
  if offset = 0x08 then storeConfig w s
  else if offset = 0x0C then storeInterval w s
  else if offset = 0x14 then storeMask w s
  else if offset = 0x18 then acknowledge w s
  else if offset = 0x24 then submitRequest w s
  else if offset = 0x34 then popCompletion s
  else if offset = 0x3C then writeBufData w s
  else if offset = 0x48 then writeCommand (w.extractLsb' 0 8) s
  else if offset = 0x78 then popReport s
  else plainWrite offset w s

/-! ### Codes (Tables 11-4 and 11-5) -/

/-- A value placed in a field whose lowest bit is `low`. -/
def place (low value : Nat) : Word := BitVec.ofNat 32 value <<< low

/-- A flag placed in bit `low`. -/
def placeFlag (low : Nat) (flag : Bool) : Word := flagBit flag low

def ControllerState.code : ControllerState → Nat
  | .starting _ => 0
  | .heldInReset => 1
  | .restarting => 2
  | .ready => 3
  | .enteringRetention => 4
  | .retained => 5
  | .leavingRetention => 6

/-- The sub-phase bit: 1 in ARRAY_INIT, 0 in LOADING and outside STARTING. -/
def ControllerState.arrayInit : ControllerState → Bool
  | .starting .arrayInit => true
  | .starting .loading => false
  | .heldInReset | .restarting | .ready | .enteringRetention | .retained | .leavingRetention => false

def SubmitResult.code : SubmitResult → Nat
  | .none => 0
  | .accepted => 1
  | .notReady => 2
  | .queueFull => 3
  | .badKind => 4
  | .badRow => 5
  | .emptyMask => 6
  | .duplicateTag => 7
  | .bufferBusy => 8

def RecordKind.code : RecordKind → Nat
  | .read => 1
  | .write => 2

def HostOutcome.code : HostOutcome → Nat
  | .ok => 0
  | .corrected _ => 1
  | .uncorrectable => 2
  | .poisoned => 3
  | .merged => 4
  | .mergeCorrected _ => 5
  | .dataLost => 6
  | .notFormatted => 7

/-- The corrected word index, 0 where it is absent (R75). -/
def HostOutcome.index : HostOutcome → Nat
  | .corrected i => i.val
  | .mergeCorrected i => i.val
  | .ok | .uncorrectable | .poisoned | .merged | .dataLost | .notFormatted => 0

def MntResult.code : MntResult → Nat
  | .none => 0
  | .done => 1
  | .superseded => 2
  | .failed => 3
  | .badCommand => 4
  | .badRow => 5
  | .notFormatted => 6
  | .engineBusy => 7
  | .noSpare => 8
  | .rowBusy => 9
  | .noMigration => 10
  | .notRemapped => 11
  | .alreadyPersistent => 12
  | .storeFull => 13
  | .retained => 14
  | .bankBusy => 15
  | .alreadyRetained => 16
  | .notRetained => 17
  | .noRecord => 18

def EngineState.code : EngineState → Nat
  | .idle => 0
  | .copying _ _ _ => 1
  | .parked _ _ => 2

def MigrationOutcome.code : MigrationOutcome → Nat
  | .committed => 1
  | .aborted => 2
  | .failedRestarts => 3
  | .failedNoSpare => 4

def RecordState.code : RecordState → Nat
  | .watch => 0
  | .candidate => 1
  | .migrating => 2
  | .stuck => 3

def Reader.code : Reader → Nat
  | .hostRead => 0
  | .hostMerge => 1
  | .patrol => 2
  | .copy => 3

def SpareState.code : SpareState → Nat
  | .free => 0
  | .target => 1
  | .inUse => 2
  | .retired => 3

def Condition.code : Condition → Nat
  | .unformatted => 0
  | .clearing => 1
  | .formatted => 2

def Phase.code : Phase → Nat
  | .idle => 0
  | .busy _ _ => 1
  | .retained => 2

/-! ### Register reads -/

/-- HPT_ID: family 0x4744, part 0x44, revision 0x01; the same in every state (R168). -/
def readId : Word := 0x47444401#32

/-- HPT_STATE (R163). -/
def readState (s : State) : Word := place 0 s.hpt.state.code ||| placeFlag 4 s.hpt.state.arrayInit

/-- HPT_CONFIG (R168). -/
def readConfig (s : State) : Word := place 0 s.hpt.threshold.val ||| placeFlag 8 s.hpt.autoMigrate

/-- PTL_INTERVAL (R139). -/
def readInterval (s : State) : Word := s.ptl.interval.setWidth 32

/-- REQ_RESULT (R52). -/
def readResultReg (s : State) : Word := place 0 s.req.result.code ||| place 8 s.req.resultTag.toNat

/-- REQ_LEVEL (R53). -/
def readLevel (s : State) : Word :=
  place 0 s.req.held.length ||| place 8 s.req.inFlight ||| place 16 s.cpl.length

/-- A completion record as CPL_HEAD shows it (R75). -/
def completionWord (c : Completion) : Word :=
  place 0 c.tag.toNat ||| place 8 c.kind.code ||| place 12 c.outcome.code |||
    place 16 c.outcome.index ||| placeFlag 20 c.fromSpare ||| place 24 c.buffer.val ||| placeFlag 31 true

/-- CPL_HEAD (R75). -/
def readCplHead (s : State) : Word := (s.cpl.head?.map completionWord).getD 0

/-- BUF_SELECT (R55). -/
def readBufSelect (s : State) : Word := place 0 s.buf.selected.val ||| place 8 s.buf.index.val

/-- The word that a read of BUF_DATA returns now (R56, R58). -/
def bufDataWord (s : State) : Word :=
  match (s.buf.line s.buf.selected).state with
  | .host => (s.buf.line s.buf.selected).words[s.buf.index]
  | .locked => 0

/-- The bit of one buffer in BUF_STATE. -/
def lockedBit (s : State) (i : BufferIdx) : Word := placeFlag i.val ((s.buf.line i).state == .locked)

/-- BUF_STATE (R59). -/
def readBufState (s : State) : Word :=
  lockedBit s 0 ||| lockedBit s 1 ||| lockedBit s 2 ||| lockedBit s 3

/-- MNT_ARG (R169). -/
def readArg (s : State) : Word :=
  place 0 s.mnt.arg.bank.val ||| place 4 s.mnt.arg.rowField.val ||| place 24 s.mnt.arg.index.val

/-- MNT_STATUS (R172). -/
def readMntStatus (s : State) : Word :=
  placeFlag 0 s.mnt.running.isSome ||| place 8 (s.mnt.lastCommand.getD 0).toNat |||
    place 16 s.mnt.lastResult.code ||| placeFlag 23 s.mnt.lastBurnSlot.isSome |||
    place 24 (s.mnt.lastBurnSlot.getD 0).val

/-- The entry of the migration in progress, as RMP answers MIG (R88). -/
def engineEntry? (s : State) : Option RemapEntry :=
  match s.mig.state with
  | .idle => none
  | .copying b l _ => (s.remap b).entry? l
  | .parked b l => (s.remap b).entry? l

/-- The restarts that MIG_STATUS shows (R118). -/
def shownRestarts (s : State) : Nat :=
  match s.mig.state with
  | .idle => (s.mig.last.map fun v => v.restarts.val).getD 0
  | .copying _ _ _ => ((engineEntry? s).map fun e => e.restarts.val).getD 0
  | .parked _ _ => ((engineEntry? s).map fun e => e.restarts.val).getD 0

/-- MIG_STATUS (R118). -/
def readMigStatus (s : State) : Word :=
  place 0 s.mig.state.code ||| place 4 (shownRestarts s) |||
    place 8 ((s.mig.last.map fun v => v.outcome.code).getD 0)

/-- The source, target and cursor fields of MIG_WHERE. -/
def entryWhere (e : RemapEntry) : Word :=
  match e.state with
  | .pending c t cursor _ =>
    placeFlag 16 c.isSome ||| place 17 (c.getD 0).val ||| place 21 t.val ||| place 25 cursor.val
  | .active c => placeFlag 16 true ||| place 17 c.val

/-- MIG_WHERE (R118). -/
def readMigWhere (s : State) : Word :=
  match s.mig.state with
  | .idle => (s.mig.last.map fun v => place 0 v.bank.val ||| place 3 v.row.val).getD 0
  | .copying b l _ => place 0 b.val ||| place 3 l.val ||| ((engineEntry? s).map entryWhere).getD 0
  | .parked b l => place 0 b.val ||| place 3 l.val ||| ((engineEntry? s).map entryWhere).getD 0

/-- PTL_STATUS (R148). -/
def readPtlStatus (s : State) : Word :=
  place 0 s.ptl.cursor.row.val ||| place 14 s.ptl.cursor.bank.val ||| place 17 s.ptl.cursor.line.val |||
    placeFlag 24 (s.ptl.step != .none)

/-- PTL_PASS (R148). -/
def readPass (s : State) : Word := s.ptl.pass.setWidth 32

/-- FRT_SELECT (R134). -/
def readFrtSelect (s : State) : Word := place 0 s.frt.select.val

/-- FRT_ENTRY_A of a record (R134). -/
def recordWordA (r : FaultRecord) : Word :=
  place 0 r.row.val ||| place 14 r.lastLine.val ||| place 20 r.bank.val ||| place 24 r.state.code |||
    placeFlag 31 true

/-- The first holding word of a record: its logical row and its two counts (R196). -/
def recordWordB (r : FaultRecord) : Word :=
  place 0 (r.logical.getD 0).val ||| place 16 r.correctable.val ||| place 24 r.uncorrectable.val

/-- The second holding word of a record: its first-seen and last-seen passes (R196). -/
def recordWordC (r : FaultRecord) : Word := place 0 r.firstPass.toNat ||| place 16 r.lastPass.toNat

/-- The record in the selected slot (R134). -/
def selectedRecord? (s : State) : Option FaultRecord := s.frt.slot s.frt.select

/-- FRT_ENTRY_A (R134): 0 for an empty slot. -/
def entryAWord (s : State) : Word := ((selectedRecord? s).map recordWordA).getD 0

/-- A read of FRT_ENTRY_A: it returns the record's first fields and captures the rest (R134, R196). -/
def readEntryA (s : State) : State :=
  (s.setReadData (entryAWord s)).setFrt { s.frt with
    holdB := ((selectedRecord? s).map recordWordB).getD 0
    holdC := ((selectedRecord? s).map recordWordC).getD 0 }

/-- FRT_LEVEL (R135). -/
def readFrtLevel (s : State) : Word :=
  place 0 s.frt.recordCount ||| place 8 s.frt.queue.length ||| placeFlag 16 (s.frt.recordCount == 32) |||
    place 24 (s.frt.queue.head?.getD 0).val

/-- UER_HEAD_A of a report (R191). -/
def reportWordA (r : Report) : Word :=
  place 0 r.bank.val ||| place 4 r.line.val ||| place 12 r.source.code ||| place 16 r.logical.val |||
    placeFlag 31 true

/-- UER_HEAD_B of a report (R191). -/
def reportWordB (r : Report) : Word := place 0 r.row.val ||| place 16 r.pass.toNat

/-- UER_LEVEL (R193). -/
def readUerLevel (s : State) : Word := place 0 s.uer.reports.length ||| placeFlag 8 s.uer.overflow

/-- RMP_SELECT (R96). -/
def readRmpSelect (s : State) : Word := place 0 s.rmp.selectBank.val ||| place 4 s.rmp.selectRow.val

/-- RMP_INFO of an entry (R96). -/
def entryWord (e : RemapEntry) : Word :=
  placeFlag 1 (e.origin == .persistent) ||| placeFlag 31 true |||
    match e.state with
    | .active c => placeFlag 0 true ||| placeFlag 2 true ||| place 4 c.val
    | .pending c t cursor k =>
      placeFlag 2 c.isSome ||| place 4 (c.getD 0).val ||| place 8 t.val ||| place 16 cursor.val |||
        place 24 k.val

/-- RMP_INFO (R96): 0 for a row without an entry. -/
def readRmpInfo (s : State) : Word :=
  (((s.remap s.rmp.selectBank).entry? s.rmp.selectRow).map entryWord).getD 0

/-- RMP_SPARES (R96). -/
def readSpares (s : State) : Word :=
  (List.finRange 16).foldl
    (fun w i => w ||| place (2 * i.val) ((s.remap s.rmp.selectBank).spare i).code) 0

/-- BSQ_BANKS (R43). -/
def readBanks (s : State) : Word :=
  allBanks.foldl
    (fun w b => w ||| place (4 * b.val) (s.bank b).condition.code |||
      place (4 * b.val + 2) (s.bank b).phase.code) 0

/-- RPS_SELECT (R159). -/
def readRpsSelect (s : State) : Word := place 0 s.rps.select.val

/-- RPS_SLOT of a slot (R159). -/
def slotWord : StoreSlot → Word
  | .blank => 0
  | .written b l i => place 0 1 ||| place 4 b.val ||| place 8 l.val ||| place 24 i.val
  | .bad => place 0 2

/-- RPS_SLOT (R159): indices 48–63 read 0 throughout. -/
def readRpsSlot (s : State) : Word :=
  if h : s.rps.select.val < 48 then slotWord (s.rps.slot ⟨s.rps.select.val, h⟩) else 0

/-- The number of slots of the store for which a test holds (R159). -/
def RepairStore.count (p : RepairStore) (test : StoreSlot → Bool) : Nat := p.slots.toList.countP test

/-- RPS_LEVEL (R159). -/
def readRpsLevel (s : State) : Word :=
  place 0 (s.rps.count StoreSlot.isBlank) ||| place 8 (s.rps.count StoreSlot.isWritten) |||
    place 16 (s.rps.count StoreSlot.isBad)

/-- The word that a read returns at an offset of the open window (Table 11-3); unlisted and write-only
offsets read 0 (R194). -/
def openRead (s : State) (offset : BitVec 8) : Word :=
  match offset.toNat with
  | 0x00 => readId
  | 0x04 => readState s
  | 0x08 => readConfig s
  | 0x0C => readInterval s
  | 0x10 => s.eventStatus
  | 0x14 => s.evt.mask
  | 0x28 => readResultReg s
  | 0x2C => readLevel s
  | 0x30 => readCplHead s
  | 0x38 => readBufSelect s
  | 0x3C => bufDataWord s
  | 0x40 => readBufState s
  | 0x44 => readArg s
  | 0x4C => readMntStatus s
  | 0x50 => readMigStatus s
  | 0x54 => readMigWhere s
  | 0x58 => readPtlStatus s
  | 0x5C => readPass s
  | 0x60 => readFrtSelect s
  | 0x64 => entryAWord s
  | 0x68 => s.frt.holdB
  | 0x6C => readFrtLevel s
  | 0x70 => (s.uer.reports.head?.map reportWordA).getD 0
  | 0x74 => (s.uer.reports.head?.map reportWordB).getD 0
  | 0x7C => readUerLevel s
  | 0x80 => readRmpSelect s
  | 0x84 => readRmpInfo s
  | 0x88 => readSpares s
  | 0x8C => readBanks s
  | 0x90 => readRpsSelect s
  | 0x94 => readRpsSlot s
  | 0x98 => readRpsLevel s
  | 0x9C => s.frt.holdC
  | _ => 0

/-- The word that a read returns at an offset: with the window closed only HPT_STATE and HPT_ID are answered,
and every other offset reads 0 (R165). -/
def readRegister (s : State) (offset : BitVec 8) : Word :=
  if s.windowOpen then openRead s offset
  else if offset = 0x00 then readId
  else if offset = 0x04 then readState s
  else 0

end Sys2Proof.Machine
end

