-- ==== Sys2Proof/Machine/BankCommands.lean ====
section
/-! DEFINITION. The meanings of the ends of the seven bank operations. An end comes only of the operation in
progress: on a bank that is not BUSY with that kind nothing ends and nothing changes (log entry 1). -/

namespace Sys2Proof.Machine

/-- READ_LINE (R13). -/
def execReadLine (b : Bank) (s : State) : Host.Outcome State Fault Refusal :=
  match (s.bank b).phase with
  | .busy (.readLine q rows fromSpare) d => .next (endRead b q rows fromSpare d s)
  | _ => .next s

/-- WRITE_LINE (R14). -/
def execWriteLine (b : Bank) (s : State) : Host.Outcome State Fault Refusal :=
  match (s.bank b).phase with
  | .busy (.writeLine q rows fromSpare words) d => .next (endWrite b q rows fromSpare words d s)
  | _ => .next s

/-- MERGE_LINE (R15). -/
def execMergeLine (b : Bank) (s : State) : Host.Outcome State Fault Refusal :=
  match (s.bank b).phase with
  | .busy (.mergeLine q rows fromSpare mask words) d => .next (endMerge b q rows fromSpare mask words d s)
  | _ => .next s

/-- SCRUB_LINE (R16). -/
def execScrubLine (b : Bank) (s : State) : Host.Outcome State Fault Refusal :=
  match (s.bank b).phase with
  | .busy (.scrubLine rows n l) d => .next (endScrub b rows n l d s)
  | _ => .next s

/-- COPY_LINE (R17, R18). -/
def execCopyLine (b : Bank) (struck : List BitPos) (s : State) : Host.Outcome State Fault Refusal :=
  match (s.bank b).phase with
  | .busy (.copyLine l source target n) d => .next (endCopy b l source target n struck d s)
  | _ => .next s

/-- CLEAR_LINE (R19). -/
def execClearLine (b : Bank) (s : State) : Host.Outcome State Fault Refusal :=
  match (s.bank b).phase with
  | .busy (.clearLine row n) d => .next (endClear b row n d s)
  | _ => .next s

/-- REFRESH (R20). -/
def execRefresh (b : Bank) (s : State) : Host.Outcome State Fault Refusal :=
  match (s.bank b).phase with
  | .busy .refresh d => .next (endRefresh b d s)
  | _ => .next s

end Sys2Proof.Machine
end

