-- ==== Sys2Proof/Machine/EngineCommands.lean ====
section
/-! DEFINITION. The meanings of the controller's own happenings: dispatch, placements, selection, and the
ends of a burn attempt and of retention exit. One that finds its cause gone changes nothing (log entry 1). -/

namespace Sys2Proof.Machine

/-- DISPATCH (R62, R63). -/
def execDispatch (s : State) : Host.Outcome State Fault Refusal :=
  match oldestEligible? s with
  | some h => .next (dispatchRequest h.request s)
  | none => .next s

/-- COPY_REQUEST_PLACE (R105). -/
def execCopyRequestPlace (s : State) : Host.Outcome State Fault Refusal :=
  match s.mig.state with
  | .copying b l .absent => .next (placeCopy b l s)
  | _ => .next s

/-- AUTO_SELECTION (R103, R104). -/
def execAutoSelection (s : State) : Host.Outcome State Fault Refusal := .next (autoSelect s)

/-- CLEAR_LINE_PLACE (R176). -/
def execClearLinePlace (s : State) : Host.Outcome State Fault Refusal :=
  match clearPlacement? s with
  | some (b, p) => .next (placeClear b p s)
  | none => .next s

/-- BURN_ATTEMPT_END (R155, R156). -/
def execBurnAttemptEnd (passed : Bool) (s : State) : Host.Outcome State Fault Refusal :=
  .next (attemptEnds passed s)

/-- RETENTION_EXIT_END (R182). -/
def execRetentionExitEnd (s : State) : Host.Outcome State Fault Refusal :=
  if s.hpt.state = .leavingRetention then .next (finishExit s) else .next s

end Sys2Proof.Machine
end

