-- ==== Sys2Proof/Machine/MaintenanceCommands.lean ====
section
/-! DEFINITION. The meanings of the maintenance commands: MNT_CMD writes with their codes (10.1). -/

namespace Sys2Proof.Machine

/-- CLEAR_BANK (R175). -/
def execClearBank (s : State) : Host.Outcome State Fault Refusal :=
  .next (takeCommand .clearBank clearBankBody s)

/-- MIGRATE_ROW (R102, R173). -/
def execMigrateRow (s : State) : Host.Outcome State Fault Refusal :=
  .next (takeCommand .migrateRow migrateRowBody s)

/-- ABORT_MIGRATION (R114, R115). -/
def execAbortMigration (s : State) : Host.Outcome State Fault Refusal :=
  .next (takeCommand .abortMigration abortMigrationBody s)

/-- BURN_ROW (R153). -/
def execBurnRow (s : State) : Host.Outcome State Fault Refusal :=
  .next (takeCommand .burnRow burnRowBody s)

/-- HOLD (R178). -/
def execHold (s : State) : Host.Outcome State Fault Refusal := .next (takeCommand .hold holdBody s)

/-- RELEASE (R179). -/
def execRelease (s : State) : Host.Outcome State Fault Refusal :=
  .next (takeCommand .release releaseBody s)

/-- ENTER_RETENTION (R180). -/
def execEnterRetention (s : State) : Host.Outcome State Fault Refusal :=
  .next (takeCommand .enterRetention enterRetentionBody s)

/-- EXIT_RETENTION (R182). -/
def execExitRetention (s : State) : Host.Outcome State Fault Refusal :=
  .next (takeCommand .exitRetention exitRetentionBody s)

/-- DROP_RECORD (R132). -/
def execDropRecord (s : State) : Host.Outcome State Fault Refusal :=
  .next (takeCommand .dropRecord dropRecordBody s)

/-- RESTART_PATROL (R147, R183). -/
def execRestartPatrol (s : State) : Host.Outcome State Fault Refusal :=
  .next (takeCommand .restartPatrol restartPatrolBody s)

/-- BAD_COMMAND (R171): a code that names no command. A code that names one is that command's write. -/
def execBadCommand (code : BitVec 8) (s : State) : Host.Outcome State Fault Refusal :=
  .next (writeCommand code s)

end Sys2Proof.Machine
end

