-- ==== Sys2Proof/Machine/PowerCommands.lean ====
section
/-! DEFINITION. The meanings of power, RST, start and array events, and of the two timers. -/

namespace Sys2Proof.Machine

/-- POWER_ON (R164). -/
def execPowerOn (s : State) : Host.Outcome State Fault Refusal := .next (applyPower s)

/-- POWER_LOSS (R2). -/
def execPowerLoss (s : State) : Host.Outcome State Fault Refusal := .next (losePower s)

/-- RST_ASSERT (R166, R167). -/
def execRstAssert (s : State) : Host.Outcome State Fault Refusal := .next (assertRst s)

/-- RST_RELEASE (R166, R167). -/
def execRstRelease (s : State) : Host.Outcome State Fault Refusal := .next (releaseRst s)

/-- BIT_CHANGE (R3). -/
def execBitChange (b : Bank) (r : PhysRow) (n : LineNo) (p : BitPos) (s : State) :
    Host.Outcome State Fault Refusal := .next (s.strike b r n [p])

/-- LOADING_END (R160). -/
def execLoadingEnd (s : State) : Host.Outcome State Fault Refusal := .next (endLoading s)

/-- ARRAY_INIT_END (R164). -/
def execArrayInitEnd (s : State) : Host.Outcome State Fault Refusal := .next (endArrayInit s)

/-- RESTARTING_END (R167). -/
def execRestartingEnd (s : State) : Host.Outcome State Fault Refusal := .next (endRestarting s)

/-- REFRESH_TIMER_EXPIRY (R24): a STOPPED timer does not expire. -/
def execRefreshTimerExpiry (s : State) : Host.Outcome State Fault Refusal :=
  match s.refreshTimer with
  | .running => .next (refreshExpiry s)
  | .stopped => .next s

/-- STEP_TIMER_EXPIRY (R140): an expiry that PTL cannot use is ignored, and a STOPPED timer does not expire. -/
def execStepTimerExpiry (s : State) : Host.Outcome State Fault Refusal :=
  if stepDue s then .next (issueStep s) else .next s

end Sys2Proof.Machine
end

