-- ==== Sys2Proof/Machine/WindowCommands.lean ====
section
/-! DEFINITION. The meanings of the window accesses of host software, MNT_CMD apart. -/

namespace Sys2Proof.Machine

/-- SUBMIT (R46). -/
def execSubmit (w : Word) (s : State) : Host.Outcome State Fault Refusal :=
  .next (s.onWrite (submitRequest w))

/-- BUF_DATA_READ (R56, R58). -/
def execBufDataRead (s : State) : Host.Outcome State Fault Refusal := .next (s.onRead readBufData)

/-- BUF_DATA_WRITE (R57, R58). -/
def execBufDataWrite (w : Word) (s : State) : Host.Outcome State Fault Refusal :=
  .next (s.onWrite (writeBufData w))

/-- CPL_POP (R76): whatever value is written. -/
def execCplPop (_w : Word) (s : State) : Host.Outcome State Fault Refusal :=
  .next (s.onWrite popCompletion)

/-- UER_POP (R192): whatever value is written. -/
def execUerPop (_w : Word) (s : State) : Host.Outcome State Fault Refusal := .next (s.onWrite popReport)

/-- FRT_ENTRY_A_READ (R134). -/
def execFrtEntryARead (s : State) : Host.Outcome State Fault Refusal := .next (s.onRead readEntryA)

/-- EVT_ACK (R187). -/
def execEvtAck (w : Word) (s : State) : Host.Outcome State Fault Refusal :=
  .next (s.onWrite (acknowledge w))

/-- EVT_MASK (R188). -/
def execEvtMask (w : Word) (s : State) : Host.Outcome State Fault Refusal := .next (s.onWrite (storeMask w))

/-- HPT_CONFIG (R168); the selection that follows is AUTO_SELECTION, a happening of its own (R104). -/
def execHptConfig (w : Word) (s : State) : Host.Outcome State Fault Refusal :=
  .next (s.onWrite (storeConfig w))

/-- PTL_INTERVAL (R139). -/
def execPtlInterval (w : Word) (s : State) : Host.Outcome State Fault Refusal :=
  .next (s.onWrite (storeInterval w))

/-- REGISTER_WRITE (R194). -/
def execRegisterWrite (offset : BitVec 8) (w : Word) (s : State) : Host.Outcome State Fault Refusal :=
  .next (s.onWrite (writeRegister offset w))

end Sys2Proof.Machine
end

