-- ==== Sys2Proof/Machine/Dispatch.lean ====
section
/-! DEFINITION. One arm for each command: its meaning. -/

namespace Sys2Proof.Machine

def exec (i : Instr) (s : State) : Host.Outcome State Fault Refusal :=
  match i with
  | .powerOn => Sys2Proof.Machine.execPowerOn s
  | .powerLoss => Sys2Proof.Machine.execPowerLoss s
  | .rstAssert => Sys2Proof.Machine.execRstAssert s
  | .rstRelease => Sys2Proof.Machine.execRstRelease s
  | .bitChange bank row line pos => Sys2Proof.Machine.execBitChange bank row line pos s
  | .loadingEnd => Sys2Proof.Machine.execLoadingEnd s
  | .arrayInitEnd => Sys2Proof.Machine.execArrayInitEnd s
  | .restartingEnd => Sys2Proof.Machine.execRestartingEnd s
  | .refreshTimerExpiry => Sys2Proof.Machine.execRefreshTimerExpiry s
  | .stepTimerExpiry => Sys2Proof.Machine.execStepTimerExpiry s
  | .readLine bank => Sys2Proof.Machine.execReadLine bank s
  | .writeLine bank => Sys2Proof.Machine.execWriteLine bank s
  | .mergeLine bank => Sys2Proof.Machine.execMergeLine bank s
  | .scrubLine bank => Sys2Proof.Machine.execScrubLine bank s
  | .copyLine bank struck => Sys2Proof.Machine.execCopyLine bank struck s
  | .clearLine bank => Sys2Proof.Machine.execClearLine bank s
  | .refresh bank => Sys2Proof.Machine.execRefresh bank s
  | .dispatch => Sys2Proof.Machine.execDispatch s
  | .copyRequestPlace => Sys2Proof.Machine.execCopyRequestPlace s
  | .autoSelection => Sys2Proof.Machine.execAutoSelection s
  | .clearLinePlace => Sys2Proof.Machine.execClearLinePlace s
  | .burnAttemptEnd passed => Sys2Proof.Machine.execBurnAttemptEnd passed s
  | .retentionExitEnd => Sys2Proof.Machine.execRetentionExitEnd s
  | .submit w => Sys2Proof.Machine.execSubmit w s
  | .bufDataRead => Sys2Proof.Machine.execBufDataRead s
  | .bufDataWrite w => Sys2Proof.Machine.execBufDataWrite w s
  | .cplPop w => Sys2Proof.Machine.execCplPop w s
  | .uerPop w => Sys2Proof.Machine.execUerPop w s
  | .frtEntryARead => Sys2Proof.Machine.execFrtEntryARead s
  | .evtAck w => Sys2Proof.Machine.execEvtAck w s
  | .evtMask w => Sys2Proof.Machine.execEvtMask w s
  | .hptConfig w => Sys2Proof.Machine.execHptConfig w s
  | .ptlInterval w => Sys2Proof.Machine.execPtlInterval w s
  | .registerWrite offset w => Sys2Proof.Machine.execRegisterWrite offset w s
  | .clearBank => Sys2Proof.Machine.execClearBank s
  | .migrateRow => Sys2Proof.Machine.execMigrateRow s
  | .abortMigration => Sys2Proof.Machine.execAbortMigration s
  | .burnRow => Sys2Proof.Machine.execBurnRow s
  | .hold => Sys2Proof.Machine.execHold s
  | .release => Sys2Proof.Machine.execRelease s
  | .enterRetention => Sys2Proof.Machine.execEnterRetention s
  | .exitRetention => Sys2Proof.Machine.execExitRetention s
  | .dropRecord => Sys2Proof.Machine.execDropRecord s
  | .restartPatrol => Sys2Proof.Machine.execRestartPatrol s
  | .badCommand code => Sys2Proof.Machine.execBadCommand code s

end Sys2Proof.Machine
end

