-- ==== Sys2Proof/WellFormed.lean ====
section
/-! DEFINITION. Which commands are well formed: the operands that make a write a REGISTER_WRITE or a
BAD_COMMAND and not another row. -/

namespace Sys2Proof

/-- The byte offsets of the registers whose write is a row of its own (Table 11-3): HPT_CONFIG,
PTL_INTERVAL, EVT_MASK, EVT_ACK, REQ_B, CPL_POP, BUF_DATA, MNT_CMD and UER_POP. -/
def ownRowOffsets : List (BitVec 8) :=
  [0x08, 0x0C, 0x14, 0x18, 0x24, 0x34, 0x3C, 0x48, 0x78]

/-- A command code that names one of the ten commands of Table 10-2 (R195). -/
def namesCommand (code : BitVec 8) : Bool := 1 ≤ code.toNat && code.toNat ≤ 10

/-- A REGISTER_WRITE is at a word-aligned offset of the window (R194) whose register has no row of its
own; a BAD_COMMAND carries a code that names no command (R171). Every other operand is in range by type. -/
def Instr.wellFormed : Instr → Bool
  | .registerWrite offset _ => offset.toNat % 4 == 0 && !ownRowOffsets.contains offset
  | .badCommand code => !namesCommand code
  | _ => true

end Sys2Proof
end

