-- ==== Sys2Proof/Safety.lean ====
section
/-! DEFINITION. What counts as a sound state, in the terms claims use: which blocks two states share, the
order of positions, and the invariants that the rules of the specification give the machine. -/

namespace Sys2Proof.Machine

/-! ### Frames -/

/-- The parts of the state (Table 0-1), with the array, the power, the pins and the model's own fields. -/
inductive Block where
  | power
  | rst
  | hpt
  | req
  | buf
  | cpl
  | bsq
  | refreshTimer
  | rmp
  | mig
  | frt
  | ptl
  | rps
  | mnt
  | evt
  | uer
  | array
  | readData
  | lineReads
  | pending
  deriving DecidableEq, Repr

/-- The two states hold the same in a block. -/
def Block.same (s t : State) : Block → Prop
  | .power => t.powered = s.powered
  | .rst => t.rstAsserted = s.rstAsserted
  | .hpt => t.hpt = s.hpt
  | .req => t.req = s.req
  | .buf => t.buf = s.buf
  | .cpl => t.cpl = s.cpl
  | .bsq => t.banks = s.banks
  | .refreshTimer => t.refreshTimer = s.refreshTimer
  | .rmp => t.rmp = s.rmp
  | .mig => t.mig = s.mig
  | .frt => t.frt = s.frt
  | .ptl => t.ptl = s.ptl
  | .rps => t.rps = s.rps
  | .mnt => t.mnt = s.mnt
  | .evt => t.evt = s.evt
  | .uer => t.uer = s.uer
  | .array => t.array = s.array
  | .readData => t.readData = s.readData
  | .lineReads => t.lineReads = s.lineReads
  | .pending => t.pending = s.pending

/-- Every block but the listed ones is in `t` as it is in `s`. -/
def keepsAllBut (changed : List Block) (s t : State) : Prop :=
  ∀ k : Block, k ∉ changed → k.same s t

/-- Every bank section but that of `b` is in `t` as it is in `s`. -/
def keepsOtherBanks (b : Bank) (s t : State) : Prop := ∀ c : Bank, c ≠ b → t.bank c = s.bank c

/-- Every line but those at the listed line numbers reads in `t` as it does in `s`. -/
def keepsOtherLines (written : List Nat) (s t : State) : Prop :=
  ∀ a : Nat, a ∉ written → t.array.read a = s.array.read a

/-- The line numbers that a write to line `n` of every write row stores to (R10). -/
def Rows.addresses (rows : Rows) (b : Bank) (n : LineNo) : List Nat :=
  lineAddress b rows.source n :: (rows.target.map fun t => lineAddress b t n).toList

/-- Exactly the event `e` is latched in addition: every other latched bit and the mask stay (R186). -/
def latchesOnly (e : Event) (s t : State) : Prop :=
  t.evt = { s.evt with latched := s.evt.latched ||| e.bit }

/-- Outside row `l` of bank `b` the remap entries are in `t` as they are in `s`, and so are the spares of the
other banks and RMP_SELECT. -/
def keepsOtherRows (b : Bank) (l : LogicalRow) (s t : State) : Prop :=
  (∀ k : LogicalRow, k ≠ l → (t.remap b).entry? k = (s.remap b).entry? k) ∧
    (∀ c : Bank, c ≠ b → t.remap c = s.remap c) ∧
    t.rmp.selectBank = s.rmp.selectBank ∧ t.rmp.selectRow = s.rmp.selectRow

/-- Every slot of the fault record table but slot `i`, FRT_SELECT and the holding words are in `g` as they
are in `f`. -/
def keepsOtherSlots (i : Fin 32) (f g : FaultTable) : Prop :=
  (∀ j : Fin 32, j ≠ i → g.slot j = f.slot j) ∧
    g.select = f.select ∧ g.holdB = f.holdB ∧ g.holdC = f.holdC

/-! ### Positions (R138) -/

/-- The number of a position in the order of R138: row, then bank, then line. -/
def Position.number (p : Position) : Nat := (p.row.val * 8 + p.bank.val) * 32 + p.line.val

/-- `p` is the first position from number `k` on in which the search stops (R141). -/
def firstPatrolled (s : State) (k : Nat) (p : Position) : Prop :=
  k ≤ p.number ∧ patrolled s p.row p.bank = true ∧
    ∀ q : Position, k ≤ q.number → q.number < p.number → patrolled s q.row q.bank = false

/-- What the arbiter's choice at the bank of a step just placed makes of the step: RUNNING exactly if the bank
is IDLE and its choice falls on patrol, WAITING otherwise (R26, R142). -/
def stepGranted (p : Position) (v : State) : Prop :=
  if (v.bank p.bank).phase = .idle ∧ (v.bank p.bank).choice v.hpt.state = some .patrol then
    (arbitrate p.bank v).ptl = { v.ptl with step := .running p false }
  else (arbitrate p.bank v).ptl = v.ptl

/-! ### Requests and buffers (Chapters 3 and 4) -/

/-- The host request of an operation, where it has one. -/
def Operation.request? : Operation → Option Request
  | .readLine q _ _ => some q
  | .writeLine q _ _ _ => some q
  | .mergeLine q _ _ _ _ => some q
  | .scrubLine _ _ _ => none
  | .copyLine _ _ _ _ => none
  | .clearLine _ _ => none
  | .refresh => none

/-- The host requests that a bank has in hand: in its host slot, or in progress with its result to be
delivered. -/
def BankSection.hostWork (k : BankSection) : List Request :=
  k.hostSlot.toList ++
    match k.phase with
    | .busy op .deliver => op.request?.toList
    | .busy _ .discard => []
    | .idle => []
    | .retained => []

/-- What R44, R54, R62 and R66 say of the held requests. -/
structure RequestInv (s : State) : Prop where
  /-- No two held requests carry the same tag (R44). -/
  tags : (s.req.held.map fun h => h.request.tag).Nodup
  /-- No two held requests name the same buffer (R44). -/
  buffers : (s.req.held.map fun h => h.request.buffer).Nodup
  /-- A line buffer is LOCKED exactly when a held request names it (R54). -/
  locked : ∀ i : BufferIdx, (s.buf.line i).state = .locked ↔ ∃ h ∈ s.req.held, h.request.buffer = i
  /-- A request is in flight exactly while its bank has it in hand (R62). -/
  inHand : ∀ (b : Bank) (q : Request),
    q ∈ (s.bank b).hostWork ↔ ⟨q, .inFlight⟩ ∈ s.req.held ∧ q.bank = b
  /-- No bank has more than one host request in hand (R64). -/
  single : ∀ b : Bank, (s.bank b).hostWork.length ≤ 1
  /-- The requests in flight and the completion records never number more than 8 together (R62, R66). -/
  room : s.req.inFlight + s.cpl.length ≤ 8

/-! ### Remap table and migration (Chapters 5 and 6) -/

/-- The target spare of an entry, where it is PENDING (Table 5-1). -/
def RemapEntry.target? (e : RemapEntry) : Option SpareIdx :=
  match e.state with
  | .active _ => none
  | .pending _ t _ _ => some t

/-- The spares that an entry names. -/
def RemapEntry.spares (e : RemapEntry) : List SpareIdx := e.current.toList ++ e.target?.toList

/-- What R80 and R81 say of the entries and the spares of one bank. -/
structure BankRemap.Agrees (m : BankRemap) : Prop where
  /-- No two entries for the same logical row (R80). -/
  rows : (m.entries.map RemapEntry.row).Nodup
  /-- No spare is named twice (R81). -/
  named : (m.entries.flatMap RemapEntry.spares).Nodup
  /-- The IN_USE spares are the current spares (R81). -/
  inUse : ∀ i : SpareIdx, m.spare i = .inUse ↔ ∃ e ∈ m.entries, e.current = some i
  /-- The TARGET spares are the targets of PENDING entries (R81). -/
  target : ∀ i : SpareIdx, m.spare i = .target ↔ ∃ e ∈ m.entries, e.target? = some i

/-- The migration in progress is that of row `l` of bank `b`. -/
def EngineState.moves (v : EngineState) (b : Bank) (l : LogicalRow) : Prop :=
  match v with
  | .idle => False
  | .copying c k _ => c = b ∧ k = l
  | .parked c k => c = b ∧ k = l

/-- What R80, R81 and R89 say of the whole remap table and the engine. -/
structure RemapInv (s : State) : Prop where
  banks : ∀ b : Bank, (s.remap b).Agrees
  /-- An entry is PENDING exactly when the engine is COPYING or PARKED with its bank and row (R89). -/
  pending : ∀ (b : Bank) (l : LogicalRow),
    (∃ e ∈ (s.remap b).entries, e.row = l ∧ e.isPending = true) ↔ s.mig.state.moves b l
  /-- The engine is IDLE throughout power-on start (R120). -/
  start : inStart s.hpt.state = true → s.mig.state = .idle

/-- MIG's copy request stands at exactly the bank that the engine names: in the migration slot while it is
WAITING, in progress with its result to be delivered while it is RUNNING (R105, R30, R88). -/
structure CopyInv (s : State) : Prop where
  /-- A copy request waits in a bank's migration slot exactly while the engine is COPYING there with its
  request WAITING. -/
  slot : ∀ b : Bank, (s.bank b).migrationSlot = true ↔ ∃ l, s.mig.state = .copying b l .waiting
  /-- A COPY LINE whose result is to be delivered is that of the engine's request, and copies the cursor line of
  the PENDING entry from its source to its target. -/
  copy : ∀ (b : Bank) (l : LogicalRow) (p : PhysRow) (x : SpareIdx) (n : LineNo),
    (s.bank b).phase = .busy (.copyLine l p x n) .deliver →
      (∃ park abort, s.mig.state = .copying b l (.running park abort)) ∧
      ∃ c k o, ⟨l, .pending c x n k, o⟩ ∈ (s.remap b).entries ∧
        p = RemapEntry.source ⟨l, .pending c x n k, o⟩
  /-- While the request is RUNNING its COPY LINE is in progress. -/
  running : ∀ (b : Bank) (l : LogicalRow) (park abort : Bool),
    s.mig.state = .copying b l (.running park abort) →
      ∃ p x n, (s.bank b).phase = .busy (.copyLine l p x n) .deliver

/-! ### Fault records (Chapter 7) -/

/-- A slot holds a record in state CANDIDATE. -/
def FaultTable.isCandidate (f : FaultTable) (i : Fin 32) : Prop :=
  ∃ r, f.slot i = some r ∧ r.state = .candidate

/-- The candidate queue holds exactly the records in state CANDIDATE, each once (R129). -/
structure CandidateInv (s : State) : Prop where
  once : s.frt.queue.Nodup
  exact : ∀ i : Fin 32, i ∈ s.frt.queue ↔ s.frt.isCandidate i

/-- `r` in slot `i` is evicted rather than `q` in slot `j`: a lower correctable count, then a greater age,
then a lower slot (R126). -/
def evictsRather (now : BitVec 16) (i j : Fin 32) (r q : FaultRecord) : Prop :=
  r.correctable < q.correctable ∨
    (r.correctable = q.correctable ∧
      (q.age now < r.age now ∨ (q.age now = r.age now ∧ i < j)))

/-! ### Repair store, patrol, events, reports, retention -/

/-- The slot of the attempt in progress is BAD (R151, R154). -/
def BurnInv (s : State) : Prop := ∀ u : Burn, s.rps.burn = some u → s.rps.slot u.slot = .bad

/-- While a step is outstanding and no restart has marked it, the cursor is the step's position (R138). -/
def PatrolInv (s : State) : Prop :=
  match s.ptl.step with
  | .none => True
  | .waiting p => s.ptl.cursor = p
  | .running p marked => marked = false → s.ptl.cursor = p

/-- PTL's step stands at exactly the bank of its position: in the patrol slot while it is WAITING, in
progress with its result to be delivered while it is RUNNING (R31, R141, R142). -/
structure StepInv (s : State) : Prop where
  slot : ∀ (b : Bank) (q : RowLine), (s.bank b).patrolSlot = some q ↔
    ∃ p, s.ptl.step = .waiting p ∧ p.bank = b ∧ q = ⟨p.row, p.line⟩
  scrub : ∀ (b : Bank) (rows : Rows) (n : LineNo) (l : LogicalRow),
    (s.bank b).phase = .busy (.scrubLine rows n l) .deliver →
      ∃ marked, s.ptl.step = .running ⟨rows.source, b, n⟩ marked
  running : ∀ (p : Position) (marked : Bool), s.ptl.step = .running p marked →
    ∃ rows l, (s.bank p.bank).phase = .busy (.scrubLine rows p.line l) .deliver

/-- A command stays RUNNING exactly while its work lasts: CLEAR BANK while the bank clear does, and the bank
clear alone fills a clear slot and makes a bank CLEARING (R175 to R177); ABORT MIGRATION while an abort is
pending (R115); BURN ROW while RPS is BURNING (R157); ENTER RETENTION and EXIT RETENTION while the controller
is entering and leaving (R180, R182). -/
structure CommandInv (s : State) : Prop where
  clear : ∀ b : Bank,
    (∃ q, s.mnt.clear = some ⟨b, q⟩) ↔ ∃ a, s.mnt.running = some ⟨.clearBank, a⟩ ∧ a.bank = b
  clearing : ∀ b : Bank, (s.bank b).condition = .clearing ↔ ∃ q, s.mnt.clear = some ⟨b, q⟩
  /-- One line of the clear stands at a time: in the clear slot or in progress (R176). -/
  clearSlot : ∀ (b : Bank) (q : RowLine), (s.bank b).clearSlot = some q →
    (s.bank b).condition = .clearing ∧
      ∀ row n, (s.bank b).phase ≠ .busy (.clearLine row n) .deliver
  clearLine : ∀ (b : Bank) (row : PhysRow) (n : LineNo),
    (s.bank b).phase = .busy (.clearLine row n) .deliver → (s.bank b).condition = .clearing
  abort : (∃ b l park, s.mig.state = .copying b l (.running park true)) ↔
    ∃ a, s.mnt.running = some ⟨.abortMigration, a⟩
  burn : s.rps.burn ≠ none ↔ ∃ a, s.mnt.running = some ⟨.burnRow, a⟩
  entry : s.hpt.state = .enteringRetention ↔ ∃ a, s.mnt.running = some ⟨.enterRetention, a⟩
  exit : s.hpt.state = .leavingRetention ↔ ∃ a, s.mnt.running = some ⟨.exitRetention, a⟩

/-- The unnamed positions of the latched bits and of the mask are 0 (R185, R188). -/
def EventInv (s : State) : Prop :=
  s.evt.latched &&& ~~~latchedPositions = 0#32 ∧
    s.evt.mask &&& ~~~(latchedPositions ||| levelPositions) = 0#32

/-- The report queue holds at most 8 reports, and the overflow flag is clear when it is empty (R190, R192). -/
def ReportInv (s : State) : Prop :=
  s.uer.reports.length ≤ 8 ∧ (s.uer.overflow = true → s.uer.reports ≠ [])

/-- What R24, R38 and R39 say of retention. -/
structure RetentionInv (s : State) : Prop where
  /-- A RETAINED bank owes no refresh, holds no host request, and stands in a retention state (R38, R39). -/
  banks : ∀ b : Bank, (s.bank b).phase = .retained →
    (s.bank b).debt = 0 ∧ (s.bank b).hostSlot = none ∧
      (s.hpt.state = .enteringRetention ∨ s.hpt.state = .retained)
  /-- In RETAINED every bank is RETAINED and the refresh timer is STOPPED (R24, R38). -/
  all : s.hpt.state = .retained →
    (∀ b : Bank, (s.bank b).phase = .retained) ∧ s.refreshTimer = .stopped

/-- The ends of the seven bank operations, with their bank. -/
def operationEndOf (c : Instr) (b : Bank) : Prop :=
  c = .readLine b ∨ c = .writeLine b ∨ c = .mergeLine b ∨ c = .scrubLine b ∨
    (∃ struck, c = .copyLine b struck) ∨ c = .clearLine b ∨ c = .refresh b

/-! ### Lines and completions, as the ends of operations leave them (1.8, 4.5) -/

/-- Line `n` of every write row is in the given form with no changed bit (R2, R10). -/
def rowsHold (t : State) (b : Bank) (rows : Rows) (n : LineNo) (form : LineForm) : Prop :=
  t.cell b rows.source n = ⟨form, []⟩ ∧ ∀ p, rows.target = some p → t.cell b p n = ⟨form, []⟩

/-- What READ LINE and SCRUB LINE leave of their lines after a read with result `r` (R13, R16). -/
def lineRepaired (b : Bank) (rows : Rows) (n : LineNo) (r : ReadResult) (s t : State) : Prop :=
  match r.outcome with
  | .clean => t.array = s.array
  | .corrected _ =>
    t.cell b rows.source n = ⟨.data r.words, []⟩ ∧ keepsOtherLines [lineAddress b rows.source n] s t
  | .uncorrectable => rowsHold t b rows n .poison ∧ keepsOtherLines (rows.addresses b n) s t
  | .poisoned => t.array = s.array

/-- The completion of a request (R70, R73): it leaves the collection, its buffer is HOST with `words`, and
its record stands at the tail of the completion queue. -/
def requestCompleted (q : Request) (outcome : HostOutcome) (fromSpare : Bool) (words : LineWords)
    (s t : State) : Prop :=
  t.req = { s.req with held := s.req.held.filter fun h => h.request.tag != q.tag } ∧
    t.cpl = s.cpl ++
      [{ tag := q.tag, kind := q.kind.shown, outcome := outcome, fromSpare := fromSpare,
         buffer := q.buffer }] ∧
    t.buf.line q.buffer = ⟨.host, words⟩ ∧
    (∀ i : BufferIdx, i ≠ q.buffer → t.buf.line i = s.buf.line i) ∧
    t.buf.selected = s.buf.selected ∧ t.buf.index = s.buf.index

/-- Every block of the machine at its power-on values, the controller state, the power, the RST input and
the slots of the repair store apart. -/
structure AtPowerOn (t : State) : Prop where
  config : t.hpt.threshold = 4 ∧ t.hpt.autoMigrate = false
  req : t.req = .initial
  buffers : ∀ i : BufferIdx, t.buf.line i = ⟨.host, .zero⟩
  bufWindow : t.buf.selected = 0 ∧ t.buf.index = 0
  cpl : t.cpl = []
  banks : ∀ b : Bank, t.bank b = .initial
  refreshTimer : t.refreshTimer = .stopped
  remap : ∀ b : Bank, t.remap b = .initial
  remapSelect : t.rmp.selectBank = 0 ∧ t.rmp.selectRow = 0
  mig : t.mig = ⟨.idle, none⟩
  records : ∀ i : Fin 32, t.frt.slot i = none
  candidates : t.frt.queue = []
  frtWindow : t.frt.select = 0 ∧ t.frt.holdB = 0 ∧ t.frt.holdC = 0
  ptl : t.ptl = ⟨0, .start, .none, 0⟩
  burn : t.rps.burn = none ∧ t.rps.select = 0
  mnt : t.mnt = .initial
  evt : t.evt = ⟨0, 0⟩
  uer : t.uer = ⟨[], false⟩
  array : t.array = []

/-- Slot `i` is a WRITTEN slot for row `l` of bank `b` that the power-on load loads with spare `x`: no
lower-numbered slot names that spare for that row (R160, R161). -/
def loadsSlot (p : RepairStore) (i : Fin 48) (b : Bank) (l : LogicalRow) (x : SpareIdx) : Prop :=
  p.slot i = .written b l x ∧ ∀ j < i, p.slot j ≠ .written b l x

/-- Slot `i` is the last loaded slot for row `l` of bank `b`, and names spare `x` (R162). -/
def lastLoaded (p : RepairStore) (i : Fin 48) (b : Bank) (l : LogicalRow) (x : SpareIdx) : Prop :=
  loadsSlot p i b l x ∧ ∀ (j : Fin 48) (y : SpareIdx), i < j → ¬loadsSlot p j b l y

/-! ### Maintenance commands -/

/-- A write of an MNT_CMD code that names `c`. -/
def MntCommand.write : MntCommand → Instr
  | .clearBank => .clearBank
  | .migrateRow => .migrateRow
  | .abortMigration => .abortMigration
  | .burnRow => .burnRow
  | .hold => .hold
  | .release => .release
  | .enterRetention => .enterRetention
  | .exitRetention => .exitRetention
  | .dropRecord => .dropRecord
  | .restartPatrol => .restartPatrol
  | .unknown code => .badCommand code

/-- The command is one of the ten, or a code that names none of them. -/
def MntCommand.proper : MntCommand → Prop
  | .unknown code => namesCommand code = false
  | .clearBank | .migrateRow | .abortMigration | .burnRow | .hold | .release => True
  | .enterRetention | .exitRetention | .dropRecord | .restartPatrol => True

/-- The unit would take a command: the window is open and the unit is IDLE (R165, R170). -/
def takesCommand (s : State) : Prop := s.windowOpen = true ∧ s.mnt.running = none

/-- MNT after `c` was taken and completed at its write with result `r` (R170, R172). -/
def mntCompleted (c : MntCommand) (r : MntResult) (s : State) : Maintenance :=
  { s.mnt with lastCommand := some c.code, lastResult := r }

/-- MNT with `c` taken and RUNNING with the argument of the write (R169, R170). -/
def mntRunning (c : MntCommand) (s : State) : Maintenance :=
  { s.mnt with running := some ⟨c, s.mnt.arg⟩, lastCommand := some c.code, lastResult := .none }

/-- A write of `c` is refused with `r`, and nothing else changes (R171). -/
def refusedWith (c : MntCommand) (r : MntResult) (s : State) : Prop :=
  ∃ t, exec c.write s = .next t ∧ keepsAllBut [.mnt, .evt] s t ∧
    t.mnt = mntCompleted c r s ∧ latchesOnly .maintDone s t

/-! ### Window accesses -/

/-- The writes and reads of the register window (R194). -/
def isAccess : Instr → Bool
  | .submit _ | .bufDataRead | .bufDataWrite _ | .cplPop _ | .uerPop _ | .frtEntryARead => true
  | .evtAck _ | .evtMask _ | .hptConfig _ | .ptlInterval _ | .registerWrite _ _ => true
  | .clearBank | .migrateRow | .abortMigration | .burnRow | .hold | .release => true
  | .enterRetention | .exitRetention | .dropRecord | .restartPatrol | .badCommand _ => true
  | .powerOn | .powerLoss | .rstAssert | .rstRelease | .bitChange _ _ _ _ | .loadingEnd => false
  | .arrayInitEnd | .restartingEnd | .refreshTimerExpiry | .stepTimerExpiry | .readLine _ => false
  | .writeLine _ | .mergeLine _ | .scrubLine _ | .copyLine _ _ | .clearLine _ | .refresh _ => false
  | .dispatch | .copyRequestPlace | .autoSelection | .clearLinePlace | .burnAttemptEnd _ => false
  | .retentionExitEnd => false

/-- The two reads of the window that are commands of their own (R56, R134). -/
def isAccessRead : Instr → Bool
  | .bufDataRead | .frtEntryARead => true
  | _ => false

/-- The command that is the end of an operation on bank `b`; `struck` is used by COPY LINE alone (R18). -/
def Operation.endsBy (op : Operation) (b : Bank) (struck : List BitPos) : Instr :=
  match op with
  | .readLine _ _ _ => .readLine b
  | .writeLine _ _ _ _ => .writeLine b
  | .mergeLine _ _ _ _ _ => .mergeLine b
  | .scrubLine _ _ _ => .scrubLine b
  | .copyLine _ _ _ _ => .copyLine b struck
  | .clearLine _ _ => .clearLine b
  | .refresh => .refresh b

/-! ### The arbiter's order (R27, R36) -/

/-- The rank of a claim at a bank, lowest first (R27, Table 2-4; in CLEARING, R36). -/
def BankSection.rank (k : BankSection) : Claim → Nat
  | .urgentRefresh => 0
  | .clear => if k.condition = .clearing then 2 else 1
  | .host => if k.condition = .clearing then 1
    else 2 + (if k.migrationAge = 16 then 1 else 0) + (if k.patrolAge = 64 then 1 else 0)
  | .migration => if k.migrationAge = 16 then (if k.patrolAge = 64 then 3 else 2) else
      if k.patrolAge = 64 then 4 else 3
  | .patrol => if k.patrolAge = 64 then 2 else 4
  | .refresh => 5

/-! ### The order of a bank clear (R176) -/

/-- The number of a line of a bank in the order of a clear: row, then line. -/
def RowLine.number (p : RowLine) : Nat := p.row.val * 32 + p.line.val

/-- `p` is the first line from number `k` on that a clear writes (R176). -/
def firstCleared (m : BankRemap) (k : Nat) (p : RowLine) : Prop :=
  k ≤ p.number ∧ m.cleared p.row = true ∧
    ∀ q : RowLine, k ≤ q.number → q.number < p.number → m.cleared q.row = false

/-- A spare is the lowest FREE one of its bank (R82). -/
def lowestFree (m : BankRemap) (t : SpareIdx) : Prop :=
  m.spare t = .free ∧ ∀ i : SpareIdx, i < t → m.spare i ≠ .free

/-- The bank has no FREE spare (R82). -/
def noFree (m : BankRemap) : Prop := ∀ i : SpareIdx, m.spare i ≠ .free

/-- What R122 and R123 say of the records: no two of one row, and a MIGRATING record is that of the source
of the migration in progress. -/
structure RecordInv (s : State) : Prop where
  distinct : ∀ (i j : Fin 32) (r q : FaultRecord), s.frt.slot i = some r → s.frt.slot j = some q →
    r.bank = q.bank → r.row = q.row → i = j
  migrating : ∀ (i : Fin 32) (r : FaultRecord), s.frt.slot i = some r → r.state = .migrating →
    ∃ l, s.mig.state.moves r.bank l ∧ r.row = (s.remap r.bank).sourceOf l

end Sys2Proof.Machine
end

