-- ==== Sys2Proof/Certificates/Slice0/Obligations.lean ====
section
/-! DEFINITION. The statements for the provers, one definition for each obligation. -/

open Sys2Proof Sys2Proof.Machine

/-! ### The step and the whole machine -/

/-- One step runs the command at the front of the queue on the state with the queue's rest; on an empty
queue the block idles, which is the model's choice (log entry 2). -/
def Obligations.StepRunsTheFrontCommand : Prop :=
  (∀ (c : Instr) (rest : List Instr) (s : State), s.pending = c :: rest →
    step s = exec c (s.setPending rest)) ∧
  (∀ s : State, s.pending = [] → step s = .next s)

/-- Every command answers a next state from every state, and none touches the queue of waiting commands.
That nothing is refused where a cause is absent is the model's choice (log entry 1). -/
def Obligations.EveryCommandAnswersNext : Prop :=
  ∀ (c : Instr) (s : State), ∃ t, exec c s = .next t ∧ t.pending = s.pending

/-- A line changes only at the end of an operation on its own bank, at a bit change that strikes it, or at
a change of power; and the end of an operation touches the section of its own bank alone (R2, R3, R9). -/
def Obligations.OperationsStayInTheirBank : Prop :=
  (∀ (c : Instr) (s t : State) (b : Bank) (r : PhysRow) (n : LineNo),
    exec c s = .next t → t.cell b r n ≠ s.cell b r n →
      operationEndOf c b ∨ (∃ p, c = .bitChange b r n p) ∨ c = .powerOn ∨ c = .powerLoss) ∧
  (∀ (c : Instr) (s t : State) (b : Bank),
    operationEndOf c b → exec c s = .next t → keepsOtherBanks b s t)

/-- A line in form POISON leaves that form only by a WRITE LINE, a CLEAR LINE or a COPY LINE of its bank,
by a MERGE LINE that names its row as target, or at a change of power (R7, R2). -/
def Obligations.PoisonLeavesOnlyByAWrite : Prop :=
  ∀ (c : Instr) (s t : State) (b : Bank) (r : PhysRow) (n : LineNo),
    exec c s = .next t → (s.cell b r n).form = .poison → (t.cell b r n).form ≠ .poison →
      c = .writeLine b ∨ c = .clearLine b ∨ (∃ struck, c = .copyLine b struck) ∨
      (c = .mergeLine b ∧ ∃ q rows spare mask words d,
        (s.bank b).phase = .busy (.mergeLine q rows spare mask words) d ∧ rows.target = some r) ∨
      c = .powerOn ∨ c = .powerLoss

/-- A latched event stays latched until a write acknowledges it, an assertion of RST clears it, or power
changes (R186). A REGISTER_WRITE at the offset of EVT_ACK is the model's reading of an ill-formed command
(log entry 7). -/
def Obligations.LatchedEventStaysUntilAcknowledged : Prop :=
  ∀ (c : Instr) (s t : State) (e : Event),
    exec c s = .next t → s.isLatched e = true → t.isLatched e = false →
      (∃ w : Word, (c = .evtAck w ∨ c = .registerWrite 0x18 w) ∧ w.getLsbD e.position = true) ∨
      c = .rstAssert ∨ c = .powerOn ∨ c = .powerLoss

/-! ### Power, start and reset (9.4) -/

/-- The reset state is a part right after power-on, and POWER_ON brings an unpowered part there with its
repair store's slots kept; POWER_LOSS loses every line and keeps the slots (R2, R152, R164). What the other
blocks hold without power is the model's choice (log entry 9), and so is a never programmed store in the
reset state (log entry 3). -/
def Obligations.PowerGivesPowerOnValues : Prop :=
  (AtPowerOn State.reset ∧ State.reset.hpt.state = .starting .loading ∧ State.reset.powered = true ∧
    State.reset.rstAsserted = false ∧ ∀ i : Fin 48, State.reset.rps.slot i = .blank) ∧
  (∀ s : State, s.powered = false → ∃ t, exec .powerOn s = .next t ∧ t.powered = true ∧
    t.hpt.state = .starting .loading ∧ AtPowerOn t ∧ t.rstAsserted = s.rstAsserted ∧
    ∀ i : Fin 48, t.rps.slot i = s.rps.slot i) ∧
  (∀ s : State, s.powered = true → ∃ t, exec .powerLoss s = .next t ∧ t.powered = false ∧
    AtPowerOn t ∧ t.rstAsserted = s.rstAsserted ∧ ∀ i : Fin 48, t.rps.slot i = s.rps.slot i)

/-- RST in STARTING abandons the start and its release begins it again; while RST is held the load does not
end (R166). The release from HELD_IN_RESET leads to RESTARTING, whose end is READY with the event READY;
the end of ARRAY_INIT is READY with the event READY and the refresh timer started (R164, R167). -/
def Obligations.StartAndRestartLeadToReady : Prop :=
  (∀ s : State, s.powered = true → s.rstAsserted = false → inStart s.hpt.state = true →
    ∃ t, exec .rstAssert s = .next t ∧ t.rstAsserted = true ∧
      t.hpt = { s.hpt with state := .starting .loading } ∧ (∀ b : Bank, t.remap b = .initial) ∧
      t.rmp.selectBank = s.rmp.selectBank ∧ t.rmp.selectRow = s.rmp.selectRow ∧
      keepsAllBut [.rst, .hpt, .rmp] s t) ∧
  (∀ s : State, s.powered = true → s.rstAsserted = true → inStart s.hpt.state = true →
    exec .loadingEnd s = .next s ∧ exec .arrayInitEnd s = .next s ∧
    ∃ t, exec .rstRelease s = .next t ∧ t.rstAsserted = false ∧
      t.hpt = { s.hpt with state := .starting .loading } ∧ (∀ b : Bank, t.remap b = .initial) ∧
      keepsAllBut [.rst, .hpt, .rmp] s t) ∧
  (∀ s : State, s.powered = true → s.rstAsserted = true → s.hpt.state = .heldInReset →
    ∃ t, exec .rstRelease s = .next t ∧ t.rstAsserted = false ∧
      t.hpt = { s.hpt with state := .restarting } ∧ keepsAllBut [.rst, .hpt] s t) ∧
  (∀ s : State, s.powered = true → s.rstAsserted = false → s.hpt.state = .restarting →
    ∃ t, exec .restartingEnd s = .next t ∧ t.hpt = { s.hpt with state := .ready } ∧
      latchesOnly .ready s t ∧ keepsAllBut [.hpt, .evt] s t) ∧
  (∀ s : State, s.powered = true → s.rstAsserted = false → s.hpt.state = .starting .arrayInit →
    ∃ t, exec .arrayInitEnd s = .next t ∧ t.hpt = { s.hpt with state := .ready } ∧
      t.refreshTimer = .running ∧ latchesOnly .ready s t ∧ keepsAllBut [.hpt, .evt, .refreshTimer] s t)

/-- The warm reset of every block but the remap table and the fault records (R42, R61, R79, R121, R150,
R158, R167, R168, R184, R189, R193). -/
def Obligations.WarmResetClearsTheBlocks : Prop :=
  ∀ s : State, s.powered = true → s.rstAsserted = false → inStart s.hpt.state = false →
    ∃ t, exec .rstAssert s = .next t ∧ t.rstAsserted = true ∧ t.hpt = ⟨.heldInReset, 4, false⟩ ∧
      t.req = .initial ∧ (∀ i : BufferIdx, t.buf.line i = ⟨.host, (s.buf.line i).words⟩) ∧
      t.buf.selected = 0 ∧ t.buf.index = 0 ∧ t.cpl = [] ∧ t.refreshTimer = .running ∧
      t.mig = ⟨.idle, none⟩ ∧ t.ptl = ⟨0, .start, .none, 0⟩ ∧ t.mnt = .initial ∧ t.evt = ⟨0, 0⟩ ∧
      t.uer = ⟨[], false⟩ ∧ t.rps = ⟨s.rps.slots, none, 0⟩ ∧
      t.frt.select = 0 ∧ t.frt.holdB = 0 ∧ t.frt.holdC = 0 ∧
      t.rmp.selectBank = 0 ∧ t.rmp.selectRow = 0 ∧
      (∀ b : Bank,
        t.bank b = { BankSection.initial with
          phase := (t.bank b).phase, condition := (t.bank b).condition, debt := (s.bank b).debt } ∧
        ((s.bank b).phase = .idle → (t.bank b).phase = .idle) ∧
        ((s.bank b).phase = .retained → (t.bank b).phase = .idle) ∧
        (∀ op d, (s.bank b).phase = .busy op d → (t.bank b).phase = .busy op .discard) ∧
        ((s.bank b).condition = .clearing → (t.bank b).condition = .unformatted) ∧
        ((s.bank b).condition ≠ .clearing → (t.bank b).condition = (s.bank b).condition)) ∧
      keepsAllBut [.rst, .hpt, .req, .buf, .cpl, .bsq, .refreshTimer, .rmp, .mig, .frt, .ptl, .rps, .mnt,
        .evt, .uer] s t

/-- The remap table and the fault records at a warm reset (R97, R137): ACTIVE entries stay, a PENDING entry
is reverted and its target is FREE; a MIGRATING record becomes CANDIDATE at the head of the queue, and
every other record and the rest of the queue stay. -/
def Obligations.WarmResetRevertsTheMigration : Prop :=
  ∀ s : State, s.powered = true → s.rstAsserted = false → inStart s.hpt.state = false →
    RemapInv s → RecordInv s →
    ∃ t, exec .rstAssert s = .next t ∧
      (∀ (b : Bank) (e : RemapEntry), e ∈ (t.remap b).entries ↔
        e.isPending = false ∧ (e ∈ (s.remap b).entries ∨
          ∃ c p n k, e.state = .active c ∧
            ⟨e.row, .pending (some c) p n k, e.origin⟩ ∈ (s.remap b).entries)) ∧
      (∀ (b : Bank) (i : SpareIdx), (t.remap b).spare i =
        if (s.remap b).spare i = .target then .free else (s.remap b).spare i) ∧
      (∀ (i : Fin 32) (r : FaultRecord), s.frt.slot i = some r → r.state = .migrating →
        t.frt.slot i = some { r with state := .candidate } ∧ t.frt.queue = i :: s.frt.queue) ∧
      (∀ i : Fin 32, (∀ r, s.frt.slot i = some r → r.state ≠ .migrating) →
        t.frt.slot i = s.frt.slot i) ∧
      ((∀ (i : Fin 32) (r : FaultRecord), s.frt.slot i = some r → r.state ≠ .migrating) →
        t.frt.queue = s.frt.queue)

/-- The turn of one slot of the power-on load (R161), and the end of LOADING (R160, R162): the table holds
ACTIVE, PERSISTENT entries for exactly the rows that WRITTEN slots name, each with the spare of the last
loaded slot for its row, which is IN_USE; a spare displaced by a later slot is RETIRED and one that no slot
names is FREE; entries and spares agree, and nothing but HPT and RMP changes. -/
def Obligations.PowerOnLoadBuildsTheTable : Prop :=
  (∀ (m : BankRemap) (l : LogicalRow) (i : SpareIdx), m.Agrees → (∀ e ∈ m.entries, e.isPending = false) →
    (m.spare i ≠ .free → m.load l i = m) ∧
    (m.spare i = .free →
      (m.load l i).entry? l = some ⟨l, .active i, .persistent⟩ ∧ (m.load l i).spare i = .inUse ∧
      (∀ k : LogicalRow, k ≠ l → (m.load l i).entry? k = m.entry? k) ∧
      (∀ (e : RemapEntry) (c : SpareIdx), m.entry? l = some e → e.current = some c →
        (m.load l i).spare c = .retired) ∧
      (∀ j : SpareIdx, j ≠ i → (∀ e, m.entry? l = some e → e.current ≠ some j) →
        (m.load l i).spare j = m.spare j) ∧
      (m.load l i).Agrees ∧ ∀ e ∈ (m.load l i).entries, e.isPending = false)) ∧
  (∀ s : State, s.powered = true → s.rstAsserted = false → s.hpt.state = .starting .loading →
    (∀ b : Bank, s.remap b = .initial) →
    (∀ (i j : Fin 48) (b : Bank) (l k : LogicalRow) (x : SpareIdx),
      s.rps.slot i = .written b l x → s.rps.slot j = .written b k x → l = k) →
    ∃ t, exec .loadingEnd s = .next t ∧ t.hpt = { s.hpt with state := .starting .arrayInit } ∧
      (∀ b : Bank, (t.remap b).Agrees) ∧
      (∀ (b : Bank) (e : RemapEntry), e ∈ (t.remap b).entries →
        ∃ i x, e = ⟨e.row, .active x, .persistent⟩ ∧ s.rps.slot i = .written b e.row x) ∧
      (∀ (b : Bank) (l : LogicalRow), (∃ e ∈ (t.remap b).entries, e.row = l) ↔
        ∃ i x, s.rps.slot i = .written b l x) ∧
      (∀ (i : Fin 48) (b : Bank) (l : LogicalRow) (x : SpareIdx), lastLoaded s.rps i b l x →
        (t.remap b).entry? l = some ⟨l, .active x, .persistent⟩ ∧ (t.remap b).spare x = .inUse) ∧
      (∀ (i : Fin 48) (b : Bank) (l : LogicalRow) (x : SpareIdx), loadsSlot s.rps i b l x →
        ¬lastLoaded s.rps i b l x → (t.remap b).spare x = .retired) ∧
      (∀ (b : Bank) (x : SpareIdx), (∀ i l, s.rps.slot i ≠ .written b l x) →
        (t.remap b).spare x = .free) ∧
      t.rmp.selectBank = s.rmp.selectBank ∧ t.rmp.selectRow = s.rmp.selectRow ∧
      keepsAllBut [.hpt, .rmp] s t)

/-! ### The array and the timers (1.2, 1.3, 2.3, 8.3) -/

/-- A bit change adds one changed bit to its line and touches nothing else (R3). That it adds one also where
the bit had changed before is the model's choice (log entry 5). -/
def Obligations.BitChangeAddsOneChangedBit : Prop :=
  ∀ (b : Bank) (r : PhysRow) (n : LineNo) (p : BitPos) (s : State), s.array.wf = true →
    ∃ t, exec (.bitChange b r n p) s = .next t ∧
      t.cell b r n = ⟨(s.cell b r n).form, (s.cell b r n).changes ++ [p]⟩ ∧
      keepsOtherLines [lineAddress b r n] s t ∧ keepsAllBut [.array] s t

/-- The outcome and the delivered words of a read by form and changed bits (R4, R5; Tables 1-3 and 1-4). With
three or more changed bits the outcome is a free value of their positions, the same at every read of lines
whose changed bits stand at the same positions (log entry 4). That a bit changed twice counts as two changed
bits is the model's choice (log entry 5). -/
def Obligations.ReadOutcomeFollowsTheTables : Prop :=
  ∀ (n : Nat) (c : LineCell),
    (∀ w, c.form = .data w → c.changes = [] → readCell n c = ⟨.clean, w⟩) ∧
    (∀ w x, c.form = .data w → c.changes = [x] →
      ∃ i, readCell n c = ⟨.corrected i, w⟩ ∧
        (∀ k j, x = .word k j → i.val = k.val) ∧ (x = .check → i = 8)) ∧
    (∀ w, c.form = .data w → c.changes.length = 2 →
      readCell n c = ⟨.uncorrectable, storedWords w c.changes⟩) ∧
    (∀ w, c.form = .data w → 3 ≤ c.changes.length →
      (readCell n c).outcome ≠ .poisoned ∧
      ((readCell n c).outcome = .clean → (readCell n c).words = storedWords w c.changes) ∧
      ((readCell n c).outcome = .uncorrectable → (readCell n c).words = storedWords w c.changes) ∧
      (∀ i, (readCell n c).outcome = .corrected i →
        ∃ j, (readCell n c).words = miscorrect (storedWords w c.changes) i j) ∧
      ∀ (m : Nat) (d : LineCell) (v : LineWords), d.form = .data v → d.changes.Perm c.changes →
        ((readCell m d).outcome = .clean ↔ (readCell n c).outcome = .clean) ∧
        ((readCell m d).outcome = .uncorrectable ↔ (readCell n c).outcome = .uncorrectable)) ∧
    (c.form = .poison → c.changes.length < 2 → readCell n c = ⟨.poisoned, .zero⟩) ∧
    (c.form = .poison → 2 ≤ c.changes.length → (readCell n c).outcome = .uncorrectable) ∧
    ((readCell n c).outcome = .poisoned → (readCell n c).words = .zero)

/-- An expiry of the refresh timer (R24, R26): it raises the debt of every bank that is not RETAINED, and a
bank that it finds IDLE where refresh is grantable is IDLE no longer. That no debt passes 8 follows from
timing in the specification and is built in here (R25, log entry 12). A STOPPED timer does not expire (log
entry 1). -/
def Obligations.RefreshExpiryRaisesTheDebts : Prop :=
  (∀ s : State, s.refreshTimer = .stopped → exec .refreshTimerExpiry s = .next s) ∧
  (∀ s : State, s.refreshTimer = .running →
    ∃ t, exec .refreshTimerExpiry s = .next t ∧ keepsAllBut [.bsq, .mig, .ptl, .frt, .evt] s t ∧
      ∀ b : Bank,
        ((s.bank b).phase = .retained → t.bank b = s.bank b) ∧
        ((s.bank b).phase ≠ .retained →
          (t.bank b).debt.val = min 8 ((s.bank b).debt.val + 1) ∧
          (t.bank b).condition = (s.bank b).condition) ∧
        (∀ op d, (s.bank b).phase = .busy op d → t.bank b = { s.bank b with debt := (t.bank b).debt }) ∧
        ((s.bank b).phase = .idle →
          s.hpt.state = .ready ∨ s.hpt.state = .heldInReset ∨ s.hpt.state = .restarting →
          ((s.bank b).migrationSlot = true → ∃ e ∈ (s.remap b).entries, e.isPending = true) →
          (t.bank b).phase ≠ .idle))

/-- An expiry of the step timer issues a step at the first position from the cursor on whose bank is
FORMATTED and whose row is in use (R140, R141); where there is none up to the last position, the pass end
comes first and the search goes on from the start (R143). The step stands WAITING in the patrol slot of its
bank, whose arbiter then chooses (R26), and it is RUNNING at once exactly if an IDLE bank's choice falls on it
(R142). An expiry that PTL cannot use is ignored, and with interval 0 the timer is STOPPED and does not expire
(log entry 1). -/
def Obligations.StepExpiryPlacesTheNextStep : Prop :=
  (∀ s : State, stepDue s = false → exec .stepTimerExpiry s = .next s) ∧
  (∀ (s : State) (p : Position), stepDue s = true → firstPatrolled s s.ptl.cursor.number p →
    ∃ v, exec .stepTimerExpiry s = .next (arbitrate p.bank v) ∧
      v.ptl = { s.ptl with cursor := p, step := .waiting p } ∧
      v.bank p.bank = { s.bank p.bank with patrolSlot := some ⟨p.row, p.line⟩ } ∧
      stepGranted p v ∧ keepsOtherBanks p.bank s v ∧ keepsAllBut [.bsq, .ptl] s v) ∧
  (∀ (s : State) (p : Position), stepDue s = true → firstPatrolled s 0 p →
    (∀ q : Position, s.ptl.cursor.number ≤ q.number → patrolled s q.row q.bank = false) →
    ∃ v, exec .stepTimerExpiry s = .next (arbitrate p.bank v) ∧
      v.ptl = { s.ptl with cursor := p, step := .waiting p, pass := s.ptl.pass + 1 } ∧
      v.frt = s.frt.decay (s.ptl.pass + 1) ∧ latchesOnly .passEnd s v ∧
      v.bank p.bank = { s.bank p.bank with patrolSlot := some ⟨p.row, p.line⟩ } ∧
      stepGranted p v ∧ keepsOtherBanks p.bank s v ∧ keepsAllBut [.bsq, .ptl, .frt, .evt] s v)

/-! ### The ends of the bank operations (1.8, 2.5) -/

/-- The end of READ LINE with disposition DELIVER (R13, R70, R71): the line effects, the completion, then
what the IDLE bank does next, then the notice and report; this order is the model's reading (log entry 8).
With it, for READ LINE, MERGE LINE, SCRUB LINE and COPY LINE alike, the notice that each check outcome makes
(R11), and the request outcome of a READ (R13) and of a partial WRITE (R15). -/
def Obligations.ReadLineEndDelivers : Prop :=
  (∀ (b : Bank) (row : PhysRow) (l : LogicalRow) (n : LineNo) (reader : Reader) (i : Fin 9),
    noticeOf b row l n reader .clean = none ∧ noticeOf b row l n reader .poisoned = none ∧
    noticeOf b row l n reader (.corrected i) =
      some { bank := b, row := row, logical := l, line := n, uncorrectable := false, reader := reader } ∧
    noticeOf b row l n reader .uncorrectable =
      some { bank := b, row := row, logical := l, line := n, uncorrectable := true, reader := reader } ∧
    readOutcome .clean = .ok ∧ readOutcome (.corrected i) = .corrected i ∧
    readOutcome .uncorrectable = .uncorrectable ∧ readOutcome .poisoned = .poisoned ∧
    mergeOutcome .clean = .merged ∧ mergeOutcome (.corrected i) = .mergeCorrected i ∧
    mergeOutcome .uncorrectable = .dataLost ∧ mergeOutcome .poisoned = .dataLost) ∧
  ∀ (b : Bank) (s : State) (q : Request) (rows : Rows) (spare : Bool),
    (s.bank b).phase = .busy (.readLine q rows spare) .deliver → s.array.wf = true →
    ∃ v, exec (.readLine b) s = .next (sendNotice?
        (noticeOf b rows.source q.row q.line .hostRead (s.readResult b rows.source q.line).outcome)
        (settleBank b v)) ∧
      lineRepaired b rows q.line (s.readResult b rows.source q.line) s v ∧
      requestCompleted q (readOutcome (s.readResult b rows.source q.line).outcome) spare
        (s.readResult b rows.source q.line).words s v ∧
      v.bank b = { s.bank b with phase := .idle } ∧ keepsOtherBanks b s v ∧
      v.lineReads = s.lineReads + 1 ∧ keepsAllBut [.req, .buf, .cpl, .bsq, .array, .lineReads] s v

/-- The ends of WRITE LINE (R14, R70) and MERGE LINE (R15, R70) with disposition DELIVER. The words stored are
those of the grant (log entry 13), and the notice comes after the bank's next move (log entry 8): both are the
model's reading. -/
def Obligations.WriteAndMergeLineEndsStore : Prop :=
  (∀ (b : Bank) (s : State) (q : Request) (rows : Rows) (spare : Bool) (words : LineWords),
    (s.bank b).phase = .busy (.writeLine q rows spare words) .deliver → s.array.wf = true →
    ∃ v, exec (.writeLine b) s = .next (settleBank b v) ∧
      rowsHold v b rows q.line (.data words) ∧ keepsOtherLines (rows.addresses b q.line) s v ∧
      requestCompleted q .ok spare (s.buf.line q.buffer).words s v ∧
      v.bank b = { s.bank b with phase := .idle } ∧ keepsOtherBanks b s v ∧
      keepsAllBut [.req, .buf, .cpl, .bsq, .array] s v) ∧
  (∀ (b : Bank) (s : State) (q : Request) (rows : Rows) (spare : Bool) (mask : BitVec 8)
    (words : LineWords),
    (s.bank b).phase = .busy (.mergeLine q rows spare mask words) .deliver → s.array.wf = true →
    ∃ v, exec (.mergeLine b) s = .next (sendNotice?
        (noticeOf b rows.source q.row q.line .hostMerge (s.readResult b rows.source q.line).outcome)
        (settleBank b v)) ∧
      (match (s.readResult b rows.source q.line).outcome with
        | .clean | .corrected _ =>
          (∃ w : LineWords, rowsHold v b rows q.line (.data w) ∧
            ∀ i : WordIdx, w[i] = if mask.getLsbD i.val then words[i]
              else (s.readResult b rows.source q.line).words[i]) ∧
          keepsOtherLines (rows.addresses b q.line) s v
        | .uncorrectable =>
          rowsHold v b rows q.line .poison ∧ keepsOtherLines (rows.addresses b q.line) s v
        | .poisoned => v.array = s.array) ∧
      requestCompleted q (mergeOutcome (s.readResult b rows.source q.line).outcome) spare
        (s.buf.line q.buffer).words s v ∧
      v.bank b = { s.bank b with phase := .idle } ∧ keepsOtherBanks b s v ∧
      v.lineReads = s.lineReads + 1 ∧ keepsAllBut [.req, .buf, .cpl, .bsq, .array, .lineReads] s v)

/-- The end of SCRUB LINE with disposition DELIVER (R16, R142, R143): the line effects, the end of the step
with the cursor's move or the pass end, what the IDLE bank does next, then the notice and report; that the
bank's next move comes before the notice is the model's reading (log entry 8). -/
def Obligations.ScrubLineEndMovesTheCursor : Prop :=
  ∀ (b : Bank) (s : State) (rows : Rows) (n : LineNo) (l : LogicalRow) (p : Position) (marked : Bool),
    (s.bank b).phase = .busy (.scrubLine rows n l) .deliver → s.array.wf = true →
    s.ptl.step = .running p marked →
    ∃ v, exec (.scrubLine b) s = .next (sendNotice?
        (noticeOf b rows.source l n .patrol (s.readResult b rows.source n).outcome) (settleBank b v)) ∧
      lineRepaired b rows n (s.readResult b rows.source n) s v ∧
      (marked = true → v.ptl = { s.ptl with step := .none } ∧ v.frt = s.frt ∧ v.evt = s.evt) ∧
      (∀ p' : Position, marked = false → p'.number = p.number + 1 →
        v.ptl = { s.ptl with step := .none, cursor := p' } ∧ v.frt = s.frt ∧ v.evt = s.evt) ∧
      (marked = false → p = ⟨8207, 7, 31⟩ →
        v.ptl = { s.ptl with step := .none, cursor := .start, pass := s.ptl.pass + 1 } ∧
        v.frt = s.frt.decay (s.ptl.pass + 1) ∧ latchesOnly .passEnd s v) ∧
      v.bank b = { s.bank b with phase := .idle } ∧ keepsOtherBanks b s v ∧
      v.lineReads = s.lineReads + 1 ∧ keepsAllBut [.bsq, .ptl, .frt, .evt, .array, .lineReads] s v

/-- The end of COPY LINE with disposition DELIVER: the source read, the write of the target, the changes
that strike it, the verify read, and what MIG is handed (R17, R18, R34). That MIG's result and the bank's
next move come before the notice is the model's reading (log entry 8); so is that the outcome alone decides
the verify, also of a target that was struck (log entry 19). The changes are the command's operand (log
entry 6). -/
def Obligations.CopyLineEndCopiesAndVerifies : Prop :=
  ∀ (b : Bank) (s : State) (l : LogicalRow) (source : PhysRow) (target : SpareIdx) (n : LineNo)
    (struck : List BitPos),
    (s.bank b).phase = .busy (.copyLine l source target n) .deliver → s.array.wf = true →
    source ≠ target.physical →
    ∃ v verified, exec (.copyLine b struck) s = .next (sendNotice?
        (noticeOf b source l n .copy (s.readResult b source n).outcome)
        (settleBank b (copyEnds n verified v))) ∧
      (match (s.readResult b source n).outcome with
        | .clean | .corrected _ =>
          v.cell b target.physical n = ⟨.data (s.readResult b source n).words, struck⟩ ∧
          keepsOtherLines [lineAddress b target.physical n] s v ∧
          (verified = true ↔
            (readCell (s.lineReads + 1) (v.cell b target.physical n)).outcome = .clean)
        | .uncorrectable =>
          v.cell b source n = ⟨.poison, []⟩ ∧ v.cell b target.physical n = ⟨.poison, struck⟩ ∧
          keepsOtherLines [lineAddress b source n, lineAddress b target.physical n] s v ∧
          (verified = true ↔
            (readCell (s.lineReads + 1) (v.cell b target.physical n)).outcome = .poisoned)
        | .poisoned =>
          v.cell b target.physical n = ⟨.poison, struck⟩ ∧
          keepsOtherLines [lineAddress b target.physical n] s v ∧
          (verified = true ↔
            (readCell (s.lineReads + 1) (v.cell b target.physical n)).outcome = .poisoned)) ∧
      (struck = [] → verified = true) ∧
      v.bank b = { s.bank b with phase := .idle } ∧ keepsOtherBanks b s v ∧
      v.lineReads = s.lineReads + 2 ∧ keepsAllBut [.bsq, .array, .lineReads] s v

/-- What MIG does with the result of a copy while no abort waits (R106 to R110): COPIED advances the cursor
or commits, VERIFY_FAILED restarts on the lowest FREE spare or fails; a copy that leaves the migration in
progress parks it where park pending is set. With it what FRT does with the migration's record (R100, R130):
MIGRATING and out of the queue at a start, its slot emptied at a commit, STUCK at a failure, CANDIDATE at the
tail of the queue at an abort. -/
def Obligations.CopyResultMovesTheMigration : Prop :=
  (∀ (f : FaultTable) (i : Fin 32) (r : FaultRecord), f.slot i = some r → r.state = .migrating →
    (∀ (j : Fin 32) (q : FaultRecord), f.slot j = some q → q.state = .migrating → j = i) →
    (f.atCommit.slot i = none ∧ f.atCommit.queue = f.queue.filter (fun j => j != i) ∧
      keepsOtherSlots i f f.atCommit) ∧
    (f.atFailure.slot i = some { r with state := .stuck } ∧ f.atFailure.queue = f.queue ∧
      keepsOtherSlots i f f.atFailure) ∧
    (f.atAbort.slot i = some { r with state := .candidate } ∧ f.atAbort.queue = f.queue ++ [i] ∧
      keepsOtherSlots i f f.atAbort)) ∧
  (∀ f : FaultTable, (∀ (i : Fin 32) (r : FaultRecord), f.slot i = some r → r.state ≠ .migrating) →
    f.atCommit = f ∧ f.atFailure = f ∧ f.atAbort = f) ∧
  (∀ (f : FaultTable) (b : Bank) (p : PhysRow) (i : Fin 32) (r : FaultRecord), f.slot i = some r →
    r.bank = b → r.row = p →
    (∀ (j : Fin 32) (q : FaultRecord), f.slot j = some q → q.bank = b → q.row = p → j = i) →
    (f.take b p).slot i = some { r with state := .migrating } ∧
    (f.take b p).queue = f.queue.filter (fun j => j != i) ∧ keepsOtherSlots i f (f.take b p)) ∧
  (∀ (f : FaultTable) (b : Bank) (p : PhysRow),
    (∀ (i : Fin 32) (r : FaultRecord), f.slot i = some r → ¬(r.bank = b ∧ r.row = p)) → f.take b p = f) ∧
  ∀ (s : State) (b : Bank) (l : LogicalRow) (park : Bool) (c : Option SpareIdx) (x : SpareIdx)
    (m n : LineNo) (k : Fin 4) (o : Origin),
    RemapInv s → s.mig.state = .copying b l (.running park false) →
    ⟨l, .pending c x m k, o⟩ ∈ (s.remap b).entries →
    (n.val < 31 →
      let t := copyEnds n true s
      (∀ n' : LineNo, n'.val = n.val + 1 → (t.remap b).entry? l = some ⟨l, .pending c x n' k, o⟩) ∧
      t.mig = { s.mig with state := (if park then .parked b l else .copying b l .absent) } ∧
      (∀ i, (t.remap b).spare i = (s.remap b).spare i) ∧ keepsOtherRows b l s t ∧
      keepsAllBut [.rmp, .mig] s t) ∧
    (n.val = 31 →
      let t := copyEnds n true s
      (t.remap b).entry? l = some ⟨l, .active x, .volatile⟩ ∧ (t.remap b).spare x = .inUse ∧
      (∀ i, c = some i → (t.remap b).spare i = .retired) ∧
      (∀ i, i ≠ x → c ≠ some i → (t.remap b).spare i = (s.remap b).spare i) ∧ keepsOtherRows b l s t ∧
      t.mig = ⟨.idle, some ⟨.committed, b, l, k⟩⟩ ∧ t.frt = s.frt.atCommit ∧
      latchesOnly .migrationEnd s t ∧ keepsAllBut [.rmp, .mig, .frt, .evt] s t) ∧
    (∀ y : SpareIdx, k.val < 3 → lowestFree (s.remap b) y →
      let t := copyEnds n false s
      (∀ k' : Fin 4, k'.val = k.val + 1 → (t.remap b).entry? l = some ⟨l, .pending c y 0 k', o⟩) ∧
      (t.remap b).spare x = .retired ∧ (t.remap b).spare y = .target ∧
      (∀ i, i ≠ x → i ≠ y → (t.remap b).spare i = (s.remap b).spare i) ∧ keepsOtherRows b l s t ∧
      t.mig = { s.mig with state := (if park then .parked b l else .copying b l .absent) } ∧
      (noFree (t.remap b) → latchesOnly .spareExhausted s t) ∧
      (¬noFree (t.remap b) → t.evt = s.evt) ∧ keepsAllBut [.rmp, .mig, .evt] s t) ∧
    (k.val = 3 ∨ noFree (s.remap b) →
      let t := copyEnds n false s
      (∀ i, c = some i → (t.remap b).entry? l = some ⟨l, .active i, o⟩) ∧
      (c = none → (t.remap b).entry? l = none) ∧ (t.remap b).spare x = .retired ∧
      (∀ i, i ≠ x → (t.remap b).spare i = (s.remap b).spare i) ∧ keepsOtherRows b l s t ∧
      t.mig = ⟨.idle, some ⟨if k.val = 3 then .failedRestarts else .failedNoSpare, b, l, k⟩⟩ ∧
      t.frt = s.frt.atFailure ∧ latchesOnly .migrationEnd s t ∧
      keepsAllBut [.rmp, .mig, .frt, .evt] s t)

/-- The end of CLEAR LINE with disposition DELIVER (R19, R176, R177): zeros in the line; the clear moves on
to the next line it does not pass over, or the bank is FORMATTED and CLEAR BANK completes with DONE. -/
def Obligations.ClearLineEndGoesOn : Prop :=
  ∀ (b : Bank) (s : State) (row : PhysRow) (n : LineNo) (at' : RowLine),
    (s.bank b).phase = .busy (.clearLine row n) .deliver → s.array.wf = true →
    s.mnt.clear = some ⟨b, at'⟩ →
    ∃ v, exec (.clearLine b) s = .next (settleBank b v) ∧
      v.cell b row n = ⟨.data .zero, []⟩ ∧ keepsOtherLines [lineAddress b row n] s v ∧
      (∀ p : RowLine, firstCleared (s.remap b) (RowLine.number ⟨row, n⟩ + 1) p →
        v.mnt = { s.mnt with clear := some ⟨b, p⟩ } ∧ v.evt = s.evt ∧
        v.bank b = { s.bank b with phase := .idle }) ∧
      ((∀ p : RowLine, RowLine.number ⟨row, n⟩ + 1 ≤ p.number → (s.remap b).cleared p.row = false) →
        v.mnt = { s.mnt with running := none, lastResult := .done, clear := none } ∧
        latchesOnly .maintDone s v ∧
        v.bank b = { s.bank b with phase := .idle, condition := .formatted }) ∧
      keepsOtherBanks b s v ∧ keepsAllBut [.bsq, .mnt, .evt, .array] s v

/-- R20 whole: REFRESH touches no line, reads nothing and sends nothing; its end lowers its bank's debt by
1; and it holds its bank, whose arbiter makes no choice meanwhile. -/
def Obligations.RefreshEndLowersTheDebt : Prop :=
  ∀ (b : Bank) (s : State) (d : Disposition), (s.bank b).phase = .busy .refresh d →
    arbitrate b s = s ∧
    ∃ v, exec (.refresh b) s = .next (settleBank b v) ∧
      (v.bank b).debt.val = (s.bank b).debt.val - 1 ∧
      v.bank b = { s.bank b with phase := .idle, debt := (v.bank b).debt } ∧
      keepsOtherBanks b s v ∧ keepsAllBut [.bsq] s v ∧
      (settleBank b v).array = s.array ∧ (settleBank b v).lineReads = s.lineReads ∧
      (settleBank b v).uer = s.uer

/-- An operation that ends with disposition DISCARD hands nothing to anyone, and its line effects are those
of the same operation with disposition DELIVER (R10, R34, R42). -/
def Obligations.DiscardedEndHandsNothingOn : Prop :=
  ∀ (b : Bank) (s : State) (op : Operation) (struck : List BitPos),
    let s' := s.setBank b { s.bank b with phase := .busy op .discard }
    let s'' := s.setBank b { s.bank b with phase := .busy op .deliver }
    ∃ v t'', exec (op.endsBy b struck) s' = .next (settleBank b v) ∧
      exec (op.endsBy b struck) s'' = .next t'' ∧ (settleBank b v).array = t''.array ∧
      v.bank b = { s.bank b with phase := .idle, debt := (v.bank b).debt } ∧
      (op ≠ .refresh → (v.bank b).debt = (s.bank b).debt) ∧
      (op = .refresh → (v.bank b).debt.val = (s.bank b).debt.val - 1) ∧
      keepsOtherBanks b s v ∧ keepsAllBut [.bsq, .array, .lineReads] s v

/-! ### The arbiter (2.4 to 2.7) -/

/-- The arbiter's choice is the first waiting claim it considers, in the order of R27 and Table 2-4 (in
CLEARING, of R36), and it chooses whenever there is one (R26). -/
def Obligations.ArbiterChoosesTheFirstClaim : Prop :=
  ∀ (k : BankSection) (st : ControllerState),
    (∀ c : Claim, k.choice st = some c →
      k.waits c = true ∧ k.considers st c = true ∧
      ∀ d : Claim, k.rank d < k.rank c → ¬(k.waits d = true ∧ k.considers st d = true)) ∧
    (k.choice st = none → ∀ d : Claim, ¬(k.waits d = true ∧ k.considers st d = true))

/-- R32 whole: the grant of a clear line starts CLEAR LINE on the row and line that the slot names, the
grant of refresh starts REFRESH, whatever the remap table holds, and neither changes the aging counts. -/
def Obligations.ClearAndRefreshGrants : Prop :=
  ∀ (b : Bank) (s : State), (s.bank b).phase = .idle →
    (∀ p : RowLine, (s.bank b).choice s.hpt.state = some .clear → (s.bank b).clearSlot = some p →
      (arbitrate b s).bank b =
        { s.bank b with phase := .busy (.clearLine p.row p.line) .deliver, clearSlot := none } ∧
      keepsOtherBanks b s (arbitrate b s) ∧ keepsAllBut [.bsq] s (arbitrate b s)) ∧
    ((s.bank b).choice s.hpt.state = some .refresh ∨ (s.bank b).choice s.hpt.state = some .urgentRefresh →
      (arbitrate b s).bank b = { s.bank b with phase := .busy .refresh .deliver } ∧
      keepsOtherBanks b s (arbitrate b s) ∧ keepsAllBut [.bsq] s (arbitrate b s))

/-- The grants of the host slot, the migration slot and the patrol slot (R28 to R31, R68, Table 4-2). That a
write takes its words at the grant is the model's reading (log entry 13), and so is that the aging counts
saturate at 16 and 64, bounds that R28 says are not passed (log entry 12). -/
def Obligations.HostCopyAndStepGrants : Prop :=
  ∀ (b : Bank) (s : State), (s.bank b).phase = .idle →
    (∀ q : Request, (s.bank b).choice s.hpt.state = some .host → (s.bank b).hostSlot = some q →
      let rows := (s.remap b).translate q.row q.line
      let words := (s.buf.line q.buffer).words
      ∃ op, (arbitrate b s).bank b = { s.bank b with
          phase := .busy op .deliver, hostSlot := none,
          migrationAge := ((arbitrate b s).bank b).migrationAge,
          patrolAge := ((arbitrate b s).bank b).patrolAge } ∧
        (q.kind = .read → op = .readLine q rows (isSpareRow rows.source)) ∧
        (q.kind = .write 0xFF#8 → op = .writeLine q rows rows.fromSpareWrite words) ∧
        (∀ mask, q.kind = .write mask → mask ≠ 0xFF#8 →
          op = .mergeLine q rows rows.fromSpareWrite mask words) ∧
        ((arbitrate b s).bank b).migrationAge.val =
          (if (s.bank b).migrationSlot then min 16 ((s.bank b).migrationAge.val + 1)
            else (s.bank b).migrationAge.val) ∧
        ((arbitrate b s).bank b).patrolAge.val =
          (if (s.bank b).patrolSlot.isSome then min 64 ((s.bank b).patrolAge.val + 1)
            else (s.bank b).patrolAge.val) ∧
        keepsOtherBanks b s (arbitrate b s) ∧ keepsAllBut [.bsq] s (arbitrate b s)) ∧
    (∀ (l : LogicalRow) (c : Option SpareIdx) (x : SpareIdx) (n : LineNo) (k : Fin 4) (o : Origin) (v : CopyRequest),
      (s.bank b).choice s.hpt.state = some .migration → s.mig.state = .copying b l v →
      (s.remap b).pending? = some ⟨l, .pending c x n k, o⟩ →
      (∀ i, c = some i → ((arbitrate b s).bank b).phase = .busy (.copyLine l i.physical x n) .deliver) ∧
      (c = none → ((arbitrate b s).bank b).phase = .busy (.copyLine l l.regular x n) .deliver) ∧
      (arbitrate b s).bank b = { s.bank b with
        phase := ((arbitrate b s).bank b).phase, migrationSlot := false, migrationAge := 0,
        patrolAge := ((arbitrate b s).bank b).patrolAge } ∧
      ((arbitrate b s).bank b).patrolAge.val =
        (if (s.bank b).patrolSlot.isSome then min 64 ((s.bank b).patrolAge.val + 1)
          else (s.bank b).patrolAge.val) ∧
      (arbitrate b s).mig = { s.mig with state := .copying b l (.running false false) } ∧
      keepsOtherBanks b s (arbitrate b s) ∧ keepsAllBut [.bsq, .mig] s (arbitrate b s)) ∧
    (∀ (p : Position),
      (s.bank b).choice s.hpt.state = some .patrol → (s.bank b).patrolSlot = some ⟨p.row, p.line⟩ →
      (s.remap b).inUse p.row = true → s.ptl.step = .waiting p →
      ∃ rows l, (arbitrate b s).bank b = { s.bank b with
          phase := .busy (.scrubLine rows p.line l) .deliver, patrolSlot := none, patrolAge := 0 } ∧
        rows.source = p.row ∧ rows = (s.remap b).scrubRows p.row p.line ∧
        l = (s.remap b).logicalOf p.row ∧
        (arbitrate b s).ptl = { s.ptl with step := .running p false } ∧
        keepsOtherBanks b s (arbitrate b s) ∧ keepsAllBut [.bsq, .ptl] s (arbitrate b s))

/-- A bank that its arbiter has served is BUSY or holds no claim that could be granted (R26); a stale step
is discarded at the choice and ends, at the last position with a pass end (R33, R143); a bank that is not
IDLE makes no choice (R21); during retention entry an IDLE bank with an empty host slot enters RETAINED with
its debt set to 0, and the last one ends the entry (R38). -/
def Obligations.IdleBankArbitratesOrRetires : Prop :=
  ((∀ (b : Bank) (s : State), (s.bank b).phase ≠ .idle → arbitrate b s = s) ∧
  (∀ (b : Bank) (s : State),
    ((s.bank b).migrationSlot = true → ∃ e ∈ (s.remap b).entries, e.isPending = true) →
    (s.bank b).phase = .idle →
    ((arbitrate b s).bank b).phase ≠ .idle ∨
      ((arbitrate b s).bank b).choice (arbitrate b s).hpt.state = none) ∧
  (∀ (b : Bank) (s : State) (p : Position), (s.bank b).phase = .idle →
    (s.bank b).choice s.hpt.state = some .patrol → (s.bank b).patrolSlot = some ⟨p.row, p.line⟩ →
    (s.remap b).inUse p.row = false → s.ptl.step = .waiting p →
    ((arbitrate b s).bank b).patrolSlot = none ∧ ((arbitrate b s).bank b).patrolAge = 0 ∧
      (arbitrate b s).ptl.step = .none ∧
      (∀ p' : Position, p'.number = p.number + 1 →
        (arbitrate b s).ptl.cursor = p' ∧ (arbitrate b s).ptl.pass = s.ptl.pass ∧
        (arbitrate b s).frt = s.frt ∧ (arbitrate b s).evt = s.evt) ∧
      (p = ⟨8207, 7, 31⟩ →
        (arbitrate b s).ptl.cursor = .start ∧ (arbitrate b s).ptl.pass = s.ptl.pass + 1 ∧
        (arbitrate b s).frt = s.frt.decay (s.ptl.pass + 1) ∧ latchesOnly .passEnd s (arbitrate b s)) ∧
      (arbitrate b s).ptl.interval = s.ptl.interval ∧ keepsOtherBanks b s (arbitrate b s) ∧
      keepsAllBut [.bsq, .mig, .ptl, .frt, .evt] s (arbitrate b s))) ∧
  (∀ (b : Bank) (s : State),
    (s.hpt.state = .enteringRetention → (s.bank b).phase = .idle → (s.bank b).hostSlot = none →
      (settleBank b s).bank b = { s.bank b with phase := .retained, debt := 0 } ∧
      keepsOtherBanks b s (settleBank b s) ∧
      ((∀ c : Bank, c ≠ b → (s.bank c).phase = .retained) →
        (settleBank b s).hpt = { s.hpt with state := .retained } ∧
        (settleBank b s).refreshTimer = .stopped ∧
        (settleBank b s).mnt = { s.mnt with running := none, lastResult := .done } ∧
        latchesOnly .maintDone s (settleBank b s)) ∧
      ((∃ c : Bank, c ≠ b ∧ (s.bank c).phase ≠ .retained) → keepsAllBut [.bsq] s (settleBank b s)) ∧
      keepsAllBut [.bsq, .hpt, .refreshTimer, .mnt, .evt] s (settleBank b s)) ∧
    ((s.hpt.state ≠ .enteringRetention ∨ (s.bank b).phase ≠ .idle ∨ (s.bank b).hostSlot ≠ none) →
      settleBank b s = arbitrate b s))

/-! ### Dispatch and the engines' own happenings (4.1, 4.3, 6.2, 6.3, 9.2, 10.3) -/

/-- DISPATCH takes the oldest request that meets the four conditions of R62, in its place, into the host
slot of its bank, whose arbiter then chooses; without one it does not happen (log entry 1). -/
def Obligations.DispatchTakesTheOldestEligible : Prop :=
  (∀ s : State, (∀ h ∈ s.req.held, eligible s h = false) → exec .dispatch s = .next s) ∧
  (∀ (s : State) (older younger : List HeldRequest) (q : Request), RequestInv s →
    s.req.held = older ++ ⟨q, .waiting⟩ :: younger → (∀ h ∈ older, eligible s h = false) →
    (∀ h ∈ s.req.held, h.state = .inFlight → h.request.bank ≠ q.bank) →
    (s.bank q.bank).condition = .formatted → s.hpt.state = .ready →
    s.req.inFlight + s.cpl.length < 8 →
    ∃ v, exec .dispatch s = .next (arbitrate q.bank v) ∧
      v.req = { s.req with held := older ++ ⟨q, .inFlight⟩ :: younger } ∧
      v.bank q.bank = { s.bank q.bank with hostSlot := some q } ∧
      keepsOtherBanks q.bank s v ∧ keepsAllBut [.req, .bsq] s v)

/-- R37 whole: a request dispatched to an UNFORMATTED bank is answered at once with NOT_FORMATTED, whether
the bank is IDLE or BUSY, and leaves every bank section as it was; one for a FORMATTED bank reaches the
host slot; one for a CLEARING bank is not dispatched. -/
def Obligations.UnformattedBankAnswersAtOnce : Prop :=
  (∀ (s : State) (older younger : List HeldRequest) (q : Request), RequestInv s →
    s.req.held = older ++ ⟨q, .waiting⟩ :: younger → (∀ h ∈ older, eligible s h = false) →
    eligible s ⟨q, .waiting⟩ = true → (s.bank q.bank).condition = .unformatted →
    ∃ t, exec .dispatch s = .next t ∧ t.banks = s.banks ∧
      requestCompleted q .notFormatted false (s.buf.line q.buffer).words s t ∧
      keepsAllBut [.req, .buf, .cpl] s t) ∧
  (∀ (s : State) (older younger : List HeldRequest) (q : Request), RequestInv s →
    s.req.held = older ++ ⟨q, .waiting⟩ :: younger → (∀ h ∈ older, eligible s h = false) →
    eligible s ⟨q, .waiting⟩ = true → (s.bank q.bank).condition = .formatted →
    ∃ v, exec .dispatch s = .next (arbitrate q.bank v) ∧ (v.bank q.bank).hostSlot = some q) ∧
  (∀ (s : State) (h : HeldRequest), (s.bank h.request.bank).condition = .clearing → eligible s h = false)

/-- The placing of a copy request (R105) and of a line of the bank clear (R36, R176); each arbiter then
chooses. A placement whose cause is absent does not happen (log entry 1). -/
def Obligations.PlacementsFillTheirSlots : Prop :=
  (∀ (s : State) (b : Bank) (l : LogicalRow), s.mig.state = .copying b l .absent →
    ∃ v, exec .copyRequestPlace s = .next (arbitrate b v) ∧
      v.mig = { s.mig with state := .copying b l .waiting } ∧
      v.bank b = { s.bank b with migrationSlot := true } ∧
      keepsOtherBanks b s v ∧ keepsAllBut [.bsq, .mig] s v) ∧
  (∀ s : State, (∀ b l, s.mig.state ≠ .copying b l .absent) → exec .copyRequestPlace s = .next s) ∧
  (∀ (s : State) (c : BankClear) (p : RowLine), s.mnt.clear = some c →
    (s.bank c.bank).condition = .clearing → (s.bank c.bank).hostSlot = none →
    (s.bank c.bank).clearSlot = none →
    (∀ row n, (s.bank c.bank).phase ≠ .busy (.clearLine row n) .deliver) →
    firstCleared (s.remap c.bank) c.next.number p →
    ∃ v, exec .clearLinePlace s = .next (arbitrate c.bank v) ∧
      v.bank c.bank = { s.bank c.bank with clearSlot := some p } ∧
      keepsOtherBanks c.bank s v ∧ keepsAllBut [.bsq] s v) ∧
  (∀ s : State, (∀ c : BankClear, s.mnt.clear = some c →
      (s.bank c.bank).condition ≠ .clearing ∨ (s.bank c.bank).hostSlot ≠ none ∨
      (s.bank c.bank).clearSlot ≠ none ∨ ∃ row n, (s.bank c.bank).phase = .busy (.clearLine row n) .deliver) →
    exec .clearLinePlace s = .next s)

/-- The start of a migration (R89, R100, R101, R110), by MIGRATE ROW that passes its checks (R102, R173) and
by AUTO_SELECTION of the first candidate whose bank is FORMATTED and has a FREE spare (R103), judged when it is
taken (log entry 14). -/
def Obligations.MigrationStarts : Prop :=
  (∀ (s : State) (b : Bank) (l : LogicalRow) (x : SpareIdx), (s.remap b).Agrees →
    lowestFree (s.remap b) x →
    let t := startMigration b l s
    ((s.remap b).entry? l = none →
      (t.remap b).entry? l = some ⟨l, .pending none x 0 0, .volatile⟩) ∧
    (∀ (c : SpareIdx) (o : Origin), (s.remap b).entry? l = some ⟨l, .active c, o⟩ →
      (t.remap b).entry? l = some ⟨l, .pending (some c) x 0 0, o⟩) ∧
    (∀ k : LogicalRow, k ≠ l → (t.remap b).entry? k = (s.remap b).entry? k) ∧
    (t.remap b).spare x = .target ∧ (∀ i, i ≠ x → (t.remap b).spare i = (s.remap b).spare i) ∧
    (∀ b' : Bank, b' ≠ b → t.remap b' = s.remap b') ∧
    t.mig = { s.mig with
      state := (if s.mnt.hold || s.hpt.state != .ready then .parked b l else .copying b l .absent) } ∧
    t.frt = s.frt.take b ((s.remap b).sourceOf l) ∧
    (noFree (t.remap b) → latchesOnly .spareExhausted s t) ∧ (¬noFree (t.remap b) → t.evt = s.evt) ∧
    keepsAllBut [.rmp, .mig, .frt, .evt] s t) ∧
  (∀ (s : State) (l : LogicalRow), takesCommand s → s.mnt.arg.rowField.val = l.val →
    (s.bank s.mnt.arg.bank).condition = .formatted → s.mig.state = .idle →
    (∀ e, (s.remap s.mnt.arg.bank).entry? l = some e → e.isPending = false) →
    ¬noFree (s.remap s.mnt.arg.bank) →
    ∃ t, exec .migrateRow s = .next t ∧
      t = ((startMigration s.mnt.arg.bank l s).setMnt (mntCompleted .migrateRow .done s)).latch .maintDone) ∧
  (∀ (s : State) (before after : List (Fin 32)) (i : Fin 32) (r : FaultRecord),
    s.hpt.autoMigrate = true → s.mig.state = .idle → s.mnt.hold = false → s.hpt.state = .ready →
    s.frt.queue = before ++ i :: after → s.frt.slot i = some r → qualifies s r = true →
    (∀ j ∈ before, ∀ q, s.frt.slot j = some q → qualifies s q = false) →
    exec .autoSelection s = .next (startMigration r.bank r.logicalRow s)) ∧
  (∀ s : State, s.hpt.autoMigrate = false ∨ s.mig.state ≠ .idle ∨ s.mnt.hold = true ∨
      s.hpt.state ≠ .ready ∨
      (∀ j ∈ s.frt.queue, ∀ q, s.frt.slot j = some q → qualifies s q = false) →
    exec .autoSelection s = .next s)

/-- The end of a burn attempt (R94, R155, R156): a passed verify makes the slot WRITTEN and gives DONE or
SUPERSEDED; a failed one begins the next attempt on the lowest BLANK slot or gives FAILED. -/
def Obligations.BurnAttemptEnds : Prop :=
  ∀ (s : State) (u : Burn), s.rps.burn = some u →
    (∃ t, exec (.burnAttemptEnd true) s = .next t ∧ t.rps.burn = none ∧
      t.rps.slot u.slot = .written u.bank u.row u.spare ∧
      (∀ i : Fin 48, i ≠ u.slot → t.rps.slot i = s.rps.slot i) ∧ t.rps.select = s.rps.select ∧
      (∀ o, (s.remap u.bank).entry? u.row = some ⟨u.row, .active u.spare, o⟩ →
        t.mnt = { s.mnt with running := none, lastResult := .done, lastBurnSlot := some u.slot } ∧
        (t.remap u.bank).entry? u.row = some ⟨u.row, .active u.spare, .persistent⟩ ∧
        (t.remap u.bank).spares = (s.remap u.bank).spares ∧ keepsOtherRows u.bank u.row s t) ∧
      ((∀ o, (s.remap u.bank).entry? u.row ≠ some ⟨u.row, .active u.spare, o⟩) →
        t.mnt = { s.mnt with running := none, lastResult := .superseded, lastBurnSlot := some u.slot } ∧
        t.rmp = s.rmp) ∧
      latchesOnly .maintDone s t ∧ keepsAllBut [.rps, .rmp, .mnt, .evt] s t) ∧
    (∀ i : Fin 48, u.attempt.val < 3 → s.rps.slot i = .blank → (∀ j < i, s.rps.slot j ≠ .blank) →
      ∃ t, exec (.burnAttemptEnd false) s = .next t ∧ t.rps.slot i = .bad ∧
        (∃ a, a.val = u.attempt.val + 1 ∧ t.rps.burn = some { u with attempt := a, slot := i }) ∧
        (∀ j : Fin 48, j ≠ i → t.rps.slot j = s.rps.slot j) ∧ t.rps.select = s.rps.select ∧
        keepsAllBut [.rps] s t) ∧
    (u.attempt.val = 3 ∨ (∀ j, s.rps.slot j ≠ .blank) →
      ∃ t, exec (.burnAttemptEnd false) s = .next t ∧ t.rps = { s.rps with burn := none } ∧
        t.mnt = { s.mnt with running := none, lastResult := .failed, lastBurnSlot := some u.slot } ∧
        latchesOnly .maintDone s t ∧ keepsAllBut [.rps, .mnt, .evt] s t)

/-! ### The register window (3.2 to 3.4, 4.7, 7.7, Chapter 11) -/

/-- With the window closed a write is ignored, and a read that is a command of its own returns 0 and has no
other effect; HPT_STATE and HPT_ID alone are answered (R165). -/
def Obligations.ClosedWindowIgnoresAccesses : Prop :=
  ∀ s : State, s.windowOpen = false → s.powered = true →
    (∀ c : Instr, isAccess c = true → isAccessRead c = false → exec c s = .next s) ∧
    (∀ c : Instr, isAccessRead c = true →
      ∃ t, exec c s = .next t ∧ t.readData = 0 ∧ keepsAllBut [.readData] s t) ∧
    (∀ o : BitVec 8, o ≠ 0x00 → o ≠ 0x04 → readRegister s o = 0) ∧
    readRegister s 0x00 = 0x47444401#32 ∧
    (readRegister s 0x04).toNat = s.hpt.state.code + if s.hpt.state.arrayInit then 16 else 0

/-- A submit that passes the checks of Table 3-2 is accepted (R46, R51); one that fails is rejected with the
first failure and changes nothing of REQ but the result shown (R46 to R50). -/
def Obligations.SubmitIsAcceptedOrRejected : Prop :=
  ∀ (w : Word) (s : State), s.windowOpen = true →
    let l := s.req.latch
    let rejected (r : SubmitResult) : Prop :=
      ∃ t, exec (.submit w) s = .next t ∧
        t.req = { s.req with result := r, resultTag := l.tag } ∧
        latchesOnly .submitRejected s t ∧ keepsAllBut [.req, .evt] s t
    let named : Prop := l.kindCode = 1#2 ∨ l.kindCode = 2#2
    let field := (w.extractLsb' 4 14).toNat
    let masked : Prop := ¬(l.kindCode = 2#2 ∧ l.mask = 0#8)
    let fresh : Prop := ∀ h ∈ s.req.held, h.request.tag ≠ l.tag
    (8 ≤ s.req.held.length → rejected .queueFull) ∧
    (s.req.held.length < 8 → ¬named → rejected .badKind) ∧
    (s.req.held.length < 8 → named → 8192 ≤ field → rejected .badRow) ∧
    (s.req.held.length < 8 → named → field < 8192 → ¬masked → rejected .emptyMask) ∧
    (s.req.held.length < 8 → named → field < 8192 → masked → ¬fresh → rejected .duplicateTag) ∧
    (s.req.held.length < 8 → named → field < 8192 → masked → fresh →
      (s.buf.line l.buffer).state = .locked → rejected .bufferBusy) ∧
    (s.req.held.length < 8 → named → field < 8192 → masked → fresh →
      (s.buf.line l.buffer).state = .host →
      ∃ t q, exec (.submit w) s = .next t ∧ q.tag = l.tag ∧ q.buffer = l.buffer ∧
        (l.kindCode = 1#2 → q.kind = .read) ∧ (l.kindCode = 2#2 → q.kind = .write l.mask) ∧
        q.bank.val = (w.extractLsb' 0 3).toNat ∧ q.row.val = field ∧
        q.line.val = (w.extractLsb' 20 5).toNat ∧
        t.req = { s.req with
          held := s.req.held ++ [⟨q, .waiting⟩], result := .accepted, resultTag := l.tag } ∧
        t.buf.line l.buffer = ⟨.locked, (s.buf.line l.buffer).words⟩ ∧
        (∀ i : BufferIdx, i ≠ l.buffer → t.buf.line i = s.buf.line i) ∧
        t.buf.selected = s.buf.selected ∧ t.buf.index = s.buf.index ∧ keepsAllBut [.req, .buf] s t)

/-- Reads and writes of BUF_DATA of a HOST buffer (R56, R57), and their refusal for a LOCKED one (R58). -/
def Obligations.BufferDataAccesses : Prop :=
  ∀ s : State, s.windowOpen = true →
    let v := s.buf.line s.buf.selected
    let stepped (i : WordIdx) : Prop := i.val = (s.buf.index.val + 1) % 8
    (v.state = .host →
      ∃ t, exec .bufDataRead s = .next t ∧ t.readData = v.words[s.buf.index] ∧
        (∃ i, stepped i ∧ t.buf = { s.buf with index := i }) ∧ keepsAllBut [.buf, .readData] s t) ∧
    (v.state = .host → ∀ w : Word,
      ∃ t, exec (.bufDataWrite w) s = .next t ∧ stepped t.buf.index ∧ t.buf.selected = s.buf.selected ∧
        (t.buf.line s.buf.selected).state = .host ∧
        (∀ j : WordIdx, (t.buf.line s.buf.selected).words[j] =
          if j = s.buf.index then w else v.words[j]) ∧
        (∀ i : BufferIdx, i ≠ s.buf.selected → t.buf.line i = s.buf.line i) ∧ keepsAllBut [.buf] s t) ∧
    (v.state = .locked →
      (∃ t, exec .bufDataRead s = .next t ∧ t.readData = 0 ∧ latchesOnly .bufferFault s t ∧
        keepsAllBut [.evt, .readData] s t) ∧
      ∀ w : Word, ∃ t, exec (.bufDataWrite w) s = .next t ∧ latchesOnly .bufferFault s t ∧
        keepsAllBut [.evt] s t)

/-- Pops of the completion queue (R76) and of the report queue (R192). -/
def Obligations.PopsRemoveTheHead : Prop :=
  ∀ (w : Word) (s : State), s.windowOpen = true →
    (s.cpl = [] → exec (.cplPop w) s = .next s) ∧
    (∀ c rest, s.cpl = c :: rest →
      ∃ t, exec (.cplPop w) s = .next t ∧ t.cpl = rest ∧ keepsAllBut [.cpl] s t) ∧
    (s.uer.reports = [] → exec (.uerPop w) s = .next s) ∧
    (∀ r rest, s.uer.reports = r :: rest →
      ∃ t, exec (.uerPop w) s = .next t ∧ t.uer.reports = rest ∧
        t.uer.overflow = (if rest = [] then false else s.uer.overflow) ∧ keepsAllBut [.uer] s t)

/-- R196 whole, with the fields of Table 11-4: a read of FRT_ENTRY_A captures the rest of the record into
the two holding words, which FRT_ENTRY_B and FRT_ENTRY_C return whatever the table then holds; nothing but
such a read, a warm reset and a change of power changes them, and both are 0 after power-on and warm reset.
The word that the read itself returns stands in the model's own field readData (log entry 11). -/
def Obligations.FrtEntryReadCaptures : Prop :=
  (∀ s : State, s.windowOpen = true →
    ∃ t, exec .frtEntryARead s = .next t ∧
      (s.frt.slot s.frt.select = none → t.readData = 0 ∧ t.frt.holdB = 0 ∧ t.frt.holdC = 0) ∧
      (∀ r, s.frt.slot s.frt.select = some r →
        t.readData.toNat = r.row.val + r.lastLine.val * 2 ^ 14 + r.bank.val * 2 ^ 20 +
          r.state.code * 2 ^ 24 + 2 ^ 31 ∧
        t.frt.holdB.toNat = (r.logical.getD 0).val + r.correctable.val * 2 ^ 16 +
          r.uncorrectable.val * 2 ^ 24 ∧
        t.frt.holdC.toNat = r.firstPass.toNat + r.lastPass.toNat * 2 ^ 16) ∧
      t.frt = { s.frt with holdB := t.frt.holdB, holdC := t.frt.holdC } ∧
      keepsAllBut [.frt, .readData] s t) ∧
  (∀ s : State, s.windowOpen = true →
    readRegister s 0x68 = s.frt.holdB ∧ readRegister s 0x9C = s.frt.holdC ∧
    (readRegister s 0x5C).toNat = s.ptl.pass.toNat) ∧
  (∀ (s : State) (w : Word), s.windowOpen = true →
    ∃ t, exec (.registerWrite 0x60 w) s = .next t ∧
      t.frt = { s.frt with select := t.frt.select } ∧ t.frt.select.val = (w.extractLsb' 0 5).toNat ∧
      keepsAllBut [.frt] s t) ∧
  (State.reset.frt.holdB = 0 ∧ State.reset.frt.holdC = 0) ∧
  (∀ s : State, s.powered = true → s.rstAsserted = false → inStart s.hpt.state = false →
    ∃ t, exec .rstAssert s = .next t ∧ t.frt.holdB = 0 ∧ t.frt.holdC = 0) ∧
  (∀ s : State, s.powered = false →
    ∃ t, exec .powerOn s = .next t ∧ t.frt.holdB = 0 ∧ t.frt.holdC = 0) ∧
  (∀ (c : Instr) (s t : State), exec c s = .next t →
    t.frt.holdB ≠ s.frt.holdB ∨ t.frt.holdC ≠ s.frt.holdC →
    c = .frtEntryARead ∨ c = .rstAssert ∨ c = .powerOn ∨ c = .powerLoss)

/-- Acknowledge, mask, level bits and INT (R185, R187, R188). -/
def Obligations.EventsMaskAndInterrupt : Prop :=
  (∀ (w : Word) (s : State), s.windowOpen = true →
    ∃ t, exec (.evtAck w) s = .next t ∧ t.evt.mask = s.evt.mask ∧
      (∀ e : Event, t.isLatched e = (s.isLatched e && !w.getLsbD e.position)) ∧
      t.levelBits = s.levelBits ∧ readRegister s 0x18 = 0 ∧ keepsAllBut [.evt] s t) ∧
  (∀ (w : Word) (s : State), s.windowOpen = true →
    ∃ t, exec (.evtMask w) s = .next t ∧ t.evt.latched = s.evt.latched ∧
      (∀ i : Nat, t.evt.mask.getLsbD i =
        (w.getLsbD i && (decide (i ≤ 2) || decide (8 ≤ i ∧ i ≤ 17)))) ∧ keepsAllBut [.evt] s t) ∧
  (∀ s : State, s.interrupt = true ↔
    ∃ i : Nat, s.eventStatus.getLsbD i = true ∧ s.evt.mask.getLsbD i = true) ∧
  (∀ s : State,
    s.eventStatus.getLsbD 0 = !s.cpl.isEmpty ∧ s.eventStatus.getLsbD 1 = !s.uer.reports.isEmpty ∧
    s.eventStatus.getLsbD 2 = !s.frt.queue.isEmpty ∧
    (∀ e : Event, s.eventStatus.getLsbD e.position = s.isLatched e) ∧
    ∀ i : Nat, (∀ e : Event, e.position ≠ i) → 2 < i → s.eventStatus.getLsbD i = false)

/-- The writes that only store (R45, R55, R96, R134, R139, R159, R168, R169): what a read of the register
then returns is the written word in the register's fields (Table 11-4), and nothing else changes. -/
def Obligations.StoringWritesReadBack : Prop :=
  ∀ (w : Word) (s : State), s.windowOpen = true →
    (∃ t, exec (.hptConfig w) s = .next t ∧ readRegister t 0x08 = w &&& 0x0000010F#32 ∧
      t.hpt.state = s.hpt.state ∧ keepsAllBut [.hpt] s t) ∧
    (∃ t, exec (.ptlInterval w) s = .next t ∧ readRegister t 0x0C = w &&& 0x0000FFFF#32 ∧
      t.ptl = { s.ptl with interval := t.ptl.interval } ∧ keepsAllBut [.ptl] s t) ∧
    (∃ t, exec (.registerWrite 0x38 w) s = .next t ∧ readRegister t 0x38 = w &&& 0x00000703#32 ∧
      t.buf.lines = s.buf.lines ∧ keepsAllBut [.buf] s t) ∧
    (∃ t, exec (.registerWrite 0x44 w) s = .next t ∧ readRegister t 0x44 = w &&& 0x1F03FFF7#32 ∧
      t.mnt = { s.mnt with arg := t.mnt.arg } ∧ keepsAllBut [.mnt] s t) ∧
    (∃ t, exec (.registerWrite 0x60 w) s = .next t ∧ readRegister t 0x60 = w &&& 0x0000001F#32 ∧
      t.frt = { s.frt with select := t.frt.select } ∧ keepsAllBut [.frt] s t) ∧
    (∃ t, exec (.registerWrite 0x80 w) s = .next t ∧ readRegister t 0x80 = w &&& 0x0001FFF7#32 ∧
      t.rmp.banks = s.rmp.banks ∧ keepsAllBut [.rmp] s t) ∧
    (∃ t, exec (.registerWrite 0x90 w) s = .next t ∧ readRegister t 0x90 = w &&& 0x0000003F#32 ∧
      t.rps = { s.rps with select := t.rps.select } ∧ keepsAllBut [.rps] s t) ∧
    (∃ t, exec (.registerWrite 0x20 w) s = .next t ∧ readRegister t 0x20 = 0 ∧
      t.req.latch.tag = w.extractLsb' 0 8 ∧ t.req.latch.kindCode = w.extractLsb' 8 2 ∧
      t.req.latch.buffer.val = (w.extractLsb' 12 2).toNat ∧ t.req.latch.mask = w.extractLsb' 16 8 ∧
      t.req = { s.req with latch := t.req.latch } ∧ keepsAllBut [.req] s t) ∧
    (∀ o : BitVec 8, Instr.wellFormed (.registerWrite o w) = true →
      o ∉ ([0x20, 0x38, 0x44, 0x60, 0x80, 0x90] : List (BitVec 8)) →
      exec (.registerWrite o w) s = .next s)

/-- What the status registers of the open window return, field by field at the positions of Table 11-4
(R43, R52, R53, R59, R75, R96, R118, R135, R148, R159, R163, R168, R172, R185, R188, R191, R193). -/
def Obligations.StatusRegistersShowTheirBlocks : Prop :=
  ∀ s : State, s.windowOpen = true →
    let read (o : BitVec 8) : Nat := (readRegister s o).toNat
    let bit (v : Bool) (i : Nat) : Nat := if v then 2 ^ i else 0
    readRegister s 0x00 = 0x47444401#32 ∧ read 0x04 = s.hpt.state.code ∧
    readRegister s 0x10 = s.eventStatus ∧ readRegister s 0x14 = s.evt.mask ∧
    read 0x28 = s.req.result.code + s.req.resultTag.toNat * 2 ^ 8 ∧
    (s.req.held.length ≤ 8 → s.cpl.length ≤ 8 →
      read 0x2C = s.req.held.length + s.req.inFlight * 2 ^ 8 + s.cpl.length * 2 ^ 16) ∧
    (s.cpl = [] → read 0x30 = 0) ∧
    (∀ c rest, s.cpl = c :: rest →
      read 0x30 = c.tag.toNat + c.kind.code * 2 ^ 8 + c.outcome.code * 2 ^ 12 + c.outcome.index * 2 ^ 16 +
        bit c.fromSpare 20 + c.buffer.val * 2 ^ 24 + 2 ^ 31) ∧
    (∀ i : BufferIdx, (readRegister s 0x40).getLsbD i.val = decide ((s.buf.line i).state = .locked)) ∧
    read 0x4C = bit s.mnt.running.isSome 0 + (s.mnt.lastCommand.getD 0).toNat * 2 ^ 8 +
      s.mnt.lastResult.code * 2 ^ 16 + bit s.mnt.lastBurnSlot.isSome 23 +
      (s.mnt.lastBurnSlot.getD 0).val * 2 ^ 24 ∧
    (s.mig = ⟨.idle, none⟩ → read 0x50 = 0 ∧ read 0x54 = 0) ∧
    (∀ v, s.mig = ⟨.idle, some v⟩ →
      read 0x50 = v.restarts.val * 2 ^ 4 + v.outcome.code * 2 ^ 8 ∧
      read 0x54 = v.bank.val + v.row.val * 2 ^ 3) ∧
    (∀ (b : Bank) (l : LogicalRow) (c : Option SpareIdx) (x : SpareIdx) (n : LineNo) (k : Fin 4) (o : Origin),
      s.mig.state = .parked b l ∨ (∃ v, s.mig.state = .copying b l v) →
      (s.remap b).entry? l = some ⟨l, .pending c x n k, o⟩ →
      read 0x50 = s.mig.state.code + k.val * 2 ^ 4 +
        ((s.mig.last.map fun v => v.outcome.code).getD 0) * 2 ^ 8 ∧
      read 0x54 = b.val + l.val * 2 ^ 3 + bit c.isSome 16 + (c.getD 0).val * 2 ^ 17 + x.val * 2 ^ 21 +
        n.val * 2 ^ 25) ∧
    read 0x58 = s.ptl.cursor.row.val + s.ptl.cursor.bank.val * 2 ^ 14 + s.ptl.cursor.line.val * 2 ^ 17 +
      bit (s.ptl.step != .none) 24 ∧
    (∀ count : Nat, s.frt.slots.toList.countP Option.isSome = count → s.frt.queue.length ≤ 32 →
      count ≤ 32 ∧ read 0x6C = count + s.frt.queue.length * 2 ^ 8 + bit (count == 32) 16 +
        (s.frt.queue.head?.getD 0).val * 2 ^ 24) ∧
    (s.uer.reports = [] → read 0x70 = 0 ∧ read 0x74 = 0) ∧
    (∀ r rest, s.uer.reports = r :: rest →
      read 0x70 = r.bank.val + r.line.val * 2 ^ 4 + r.source.code * 2 ^ 12 + r.logical.val * 2 ^ 16 +
        2 ^ 31 ∧
      read 0x74 = r.row.val + r.pass.toNat * 2 ^ 16) ∧
    (s.uer.reports.length ≤ 8 → read 0x7C = s.uer.reports.length + bit s.uer.overflow 8) ∧
    ((s.remap s.rmp.selectBank).entry? s.rmp.selectRow = none → read 0x84 = 0) ∧
    (∀ (l : LogicalRow) (x : SpareIdx) (o : Origin),
      (s.remap s.rmp.selectBank).entry? s.rmp.selectRow = some ⟨l, .active x, o⟩ →
      read 0x84 = 1 + bit (o == .persistent) 1 + 2 ^ 2 + x.val * 2 ^ 4 + 2 ^ 31) ∧
    (∀ (l : LogicalRow) (c : Option SpareIdx) (x : SpareIdx) (n : LineNo) (k : Fin 4) (o : Origin),
      (s.remap s.rmp.selectBank).entry? s.rmp.selectRow = some ⟨l, .pending c x n k, o⟩ →
      read 0x84 = bit (o == .persistent) 1 + bit c.isSome 2 + (c.getD 0).val * 2 ^ 4 + x.val * 2 ^ 8 +
        n.val * 2 ^ 16 + k.val * 2 ^ 24 + 2 ^ 31) ∧
    (∀ i : SpareIdx, read 0x88 / 4 ^ i.val % 4 = ((s.remap s.rmp.selectBank).spare i).code) ∧
    (∀ b : Bank, read 0x8C / 16 ^ b.val % 16 = (s.bank b).condition.code + (s.bank b).phase.code * 4) ∧
    (∀ i : Fin 48, s.rps.select.val = i.val →
      (s.rps.slot i = .blank → read 0x94 = 0) ∧ (s.rps.slot i = .bad → read 0x94 = 2) ∧
      (∀ b l x, s.rps.slot i = .written b l x →
        read 0x94 = 1 + b.val * 2 ^ 4 + l.val * 2 ^ 8 + x.val * 2 ^ 24)) ∧
    (48 ≤ s.rps.select.val → read 0x94 = 0) ∧
    ∃ blank written bad : Nat,
      blank = s.rps.slots.toList.countP StoreSlot.isBlank ∧
      written = s.rps.slots.toList.countP StoreSlot.isWritten ∧
      bad = s.rps.slots.toList.countP StoreSlot.isBad ∧ blank + written + bad = 48 ∧
      read 0x98 = blank + written * 2 ^ 8 + bad * 2 ^ 16

/-! ### Maintenance commands (10.1 to 10.6) -/

/-- An MNT_CMD write while the unit is RUNNING is refused as busy and leaves no trace but the event (R170). -/
def Obligations.BusyUnitRefusesEveryCommand : Prop :=
  ∀ (c : MntCommand) (s : State), c.proper → s.windowOpen = true → s.mnt.running ≠ none →
    ∃ t, exec c.write s = .next t ∧ latchesOnly .maintRefusedBusy s t ∧ keepsAllBut [.evt] s t

/-- Every refusal of Table 10-2, in its order, completes the command with the refusal and changes nothing
else (R171 to R175, R180, R182). -/
def Obligations.RefusedCommandChangesNothingElse : Prop :=
  ∀ s : State, takesCommand s →
    let b := s.mnt.arg.bank
    let m := s.remap b
    let row := s.mnt.arg.rowField.val
    let pendingIn : Prop := ∃ e ∈ m.entries, e.isPending = true
    let st := s.hpt.state
    (∀ code, namesCommand code = false → refusedWith (.unknown code) .badCommand s) ∧
    (st ≠ .ready → refusedWith .clearBank .retained s) ∧
    (st = .ready → pendingIn → refusedWith .clearBank .bankBusy s) ∧
    ((s.bank b).condition ≠ .formatted → refusedWith .migrateRow .notFormatted s) ∧
    ((s.bank b).condition = .formatted → 8192 ≤ row → refusedWith .migrateRow .badRow s) ∧
    ((s.bank b).condition = .formatted → row < 8192 → s.mig.state ≠ .idle →
      refusedWith .migrateRow .engineBusy s) ∧
    (∀ (l : LogicalRow) (e : RemapEntry), (s.bank b).condition = .formatted → l.val = row →
      s.mig.state = .idle → m.entry? l = some e → e.isPending = true → refusedWith .migrateRow .rowBusy s) ∧
    (∀ l : LogicalRow, (s.bank b).condition = .formatted → l.val = row → s.mig.state = .idle →
      (∀ e, m.entry? l = some e → e.isPending = false) → noFree m → refusedWith .migrateRow .noSpare s) ∧
    (s.mig.state = .idle → refusedWith .abortMigration .noMigration s) ∧
    (8192 ≤ row → refusedWith .burnRow .badRow s) ∧
    (∀ l : LogicalRow, l.val = row → m.entry? l = none → refusedWith .burnRow .notRemapped s) ∧
    (∀ (l : LogicalRow) (e : RemapEntry), l.val = row → m.entry? l = some e → e.isPending = true →
      refusedWith .burnRow .rowBusy s) ∧
    (∀ (l : LogicalRow) (e : RemapEntry), l.val = row → m.entry? l = some e → e.isPending = false →
      e.origin = .persistent → refusedWith .burnRow .alreadyPersistent s) ∧
    (∀ (l : LogicalRow) (e : RemapEntry), l.val = row → m.entry? l = some e → e.isPending = false →
      e.origin = .volatile → (∀ i, s.rps.slot i ≠ .blank) → refusedWith .burnRow .storeFull s) ∧
    (st ≠ .ready → refusedWith .enterRetention .alreadyRetained s) ∧
    (st = .ready → refusedWith .exitRetention .notRetained s) ∧
    (s.frt.slot s.mnt.arg.index = none → refusedWith .dropRecord .noRecord s) ∧
    (∀ r, s.frt.slot s.mnt.arg.index = some r → r.state = .migrating → refusedWith .dropRecord .rowBusy s)

/-- CLEAR BANK accepted (R35, R133, R145, R175). -/
def Obligations.ClearBankBegins : Prop :=
  ∀ s : State, takesCommand s → s.hpt.state = .ready →
    (∀ e ∈ (s.remap s.mnt.arg.bank).entries, e.isPending = false) →
    let b := s.mnt.arg.bank
    ∃ t, exec .clearBank s = .next t ∧
      t.mnt = { mntRunning .clearBank s with clear := some ⟨b, ⟨0, 0⟩⟩ } ∧
      (∀ i : Fin 32, t.frt.slot i = (s.frt.slot i).filter fun r => r.bank != b) ∧
      t.frt.queue = (s.frt.queue.filter fun i => ((s.frt.slot i).map fun r => r.bank != b).getD false) ∧
      t.frt.select = s.frt.select ∧ t.frt.holdB = s.frt.holdB ∧ t.frt.holdC = s.frt.holdC ∧
      (∀ p, s.ptl.step = .waiting p → p.bank = b →
        t.ptl = { s.ptl with step := .none } ∧
        t.bank b = { s.bank b with condition := .clearing, patrolSlot := none, patrolAge := 0 }) ∧
      ((∀ p, s.ptl.step = .waiting p → p.bank ≠ b) →
        t.ptl = s.ptl ∧ t.bank b = { s.bank b with condition := .clearing }) ∧
      keepsOtherBanks b s t ∧ keepsAllBut [.bsq, .frt, .ptl, .mnt] s t

/-- ABORT MIGRATION (R114 to R116): applied at once while no copy runs, and at the end of the running copy
otherwise, whatever the copy's result. -/
def Obligations.AbortEndsTheMigration : Prop :=
  ∀ (s : State) (b : Bank) (l : LogicalRow) (c : Option SpareIdx) (x : SpareIdx) (n : LineNo) (k : Fin 4)
    (o : Origin), RemapInv s → ⟨l, .pending c x n k, o⟩ ∈ (s.remap b).entries →
    let aborted (t : State) : Prop :=
      (∀ i, c = some i → (t.remap b).entry? l = some ⟨l, .active i, o⟩) ∧
      (c = none → (t.remap b).entry? l = none) ∧ (t.remap b).spare x = .free ∧
      (∀ i, i ≠ x → (t.remap b).spare i = (s.remap b).spare i) ∧ keepsOtherRows b l s t ∧
      t.mig = ⟨.idle, some ⟨.aborted, b, l, k⟩⟩ ∧ t.frt = s.frt.atAbort ∧
      t.evt = { s.evt with latched :=
        s.evt.latched ||| Event.migrationEnd.bit ||| Event.maintDone.bit }
    (takesCommand s → s.mig.state = .parked b l ∨ s.mig.state = .copying b l .absent →
      ∃ t, exec .abortMigration s = .next t ∧ aborted t ∧ t.mnt = mntCompleted .abortMigration .done s ∧
        keepsAllBut [.rmp, .mig, .frt, .mnt, .evt] s t) ∧
    (takesCommand s → s.mig.state = .copying b l .waiting →
      ∃ t, exec .abortMigration s = .next t ∧ aborted t ∧ t.mnt = mntCompleted .abortMigration .done s ∧
        t.bank b = { s.bank b with migrationSlot := false, migrationAge := 0 } ∧ keepsOtherBanks b s t ∧
        keepsAllBut [.bsq, .rmp, .mig, .frt, .mnt, .evt] s t) ∧
    (∀ park abort, takesCommand s → s.mig.state = .copying b l (.running park abort) →
      ∃ t, exec .abortMigration s = .next t ∧
        t.mig = { s.mig with state := .copying b l (.running park true) } ∧
        t.mnt = mntRunning .abortMigration s ∧ keepsAllBut [.mig, .mnt] s t) ∧
    (∀ (park verified : Bool) (j : LineNo), s.mig.state = .copying b l (.running park true) →
      aborted (copyEnds j verified s) ∧
        (copyEnds j verified s).mnt = { s.mnt with running := none, lastResult := .done } ∧
        keepsAllBut [.rmp, .mig, .frt, .mnt, .evt] s (copyEnds j verified s))

/-- BURN ROW accepted: attempt 1 begins on the lowest BLANK slot (R153, R154, R174); DROP RECORD of a record
that is not MIGRATING removes it (R132, R174). -/
def Obligations.BurnRowBeginsAndDropRecordRemoves : Prop :=
  (∀ (s : State) (l : LogicalRow) (i : SpareIdx) (j : Fin 48), takesCommand s →
    l.val = s.mnt.arg.rowField.val →
    (s.remap s.mnt.arg.bank).entry? l = some ⟨l, .active i, .volatile⟩ →
    s.rps.slot j = .blank → (∀ k < j, s.rps.slot k ≠ .blank) →
    ∃ t, exec .burnRow s = .next t ∧ t.mnt = mntRunning .burnRow s ∧ t.rps.slot j = .bad ∧
      t.rps.burn = some ⟨s.mnt.arg.bank, l, i, 1, j⟩ ∧ t.rps.select = s.rps.select ∧
      (∀ k : Fin 48, k ≠ j → t.rps.slot k = s.rps.slot k) ∧ keepsAllBut [.rps, .mnt] s t) ∧
  (∀ (s : State) (r : FaultRecord), takesCommand s → s.frt.slot s.mnt.arg.index = some r →
    r.state ≠ .migrating →
    ∃ t, exec .dropRecord s = .next t ∧ t.mnt = mntCompleted .dropRecord .done s ∧
      latchesOnly .maintDone s t ∧ t.frt.slot s.mnt.arg.index = none ∧
      (∀ i : Fin 32, i ≠ s.mnt.arg.index → t.frt.slot i = s.frt.slot i) ∧
      t.frt.queue = (s.frt.queue.filter fun i => i != s.mnt.arg.index) ∧
      t.frt.select = s.frt.select ∧ t.frt.holdB = s.frt.holdB ∧ t.frt.holdC = s.frt.holdC ∧
      keepsAllBut [.frt, .mnt, .evt] s t)

/-- HOLD and RELEASE (R178, R179), and what parking, unparking and the withdrawal of a waiting step do (R23,
R111, R113, R146). -/
def Obligations.HoldReleaseAndParking : Prop :=
  (∀ s : State, takesCommand s →
    (s.mnt.hold = true → refusedWith .hold .done s) ∧
    (s.mnt.hold = false → s.hpt.state ≠ .ready →
      ∃ t, exec .hold s = .next t ∧ t.mnt = { mntCompleted .hold .done s with hold := true } ∧
        latchesOnly .maintDone s t ∧ keepsAllBut [.mnt, .evt] s t) ∧
    (s.mnt.hold = false → s.hpt.state = .ready →
      ∃ t, exec .hold s = .next t ∧ t.mnt = { mntCompleted .hold .done s with hold := true } ∧
        latchesOnly .maintDone s t ∧ t.mig = (park s).mig ∧ t.ptl = (withdrawStep (park s)).ptl ∧
        t.banks = (withdrawStep (park s)).banks ∧ keepsAllBut [.bsq, .mig, .ptl, .mnt, .evt] s t) ∧
    (s.mnt.hold = false → refusedWith .release .done s) ∧
    (s.mnt.hold = true → s.hpt.state ≠ .ready →
      ∃ t, exec .release s = .next t ∧ t.mnt = { mntCompleted .release .done s with hold := false } ∧
        latchesOnly .maintDone s t ∧ keepsAllBut [.mnt, .evt] s t) ∧
    (s.mnt.hold = true → s.hpt.state = .ready →
      ∃ t, exec .release s = .next t ∧ t.mnt = { mntCompleted .release .done s with hold := false } ∧
        latchesOnly .maintDone s t ∧ t.mig = (unpark s).mig ∧ keepsAllBut [.mig, .mnt, .evt] s t)) ∧
  (∀ (s : State) (b : Bank) (l : LogicalRow),
    (s.mig.state = .copying b l .absent → (park s).mig.state = .parked b l ∧ (park s).banks = s.banks) ∧
    (s.mig.state = .copying b l .waiting → (park s).mig.state = .parked b l ∧
      (park s).bank b = { s.bank b with migrationSlot := false, migrationAge := 0 } ∧
      keepsOtherBanks b s (park s)) ∧
    (∀ p a, s.mig.state = .copying b l (.running p a) →
      (park s).mig.state = .copying b l (.running true a) ∧ (park s).banks = s.banks ∧
      (unpark s).mig.state = .copying b l (.running false a)) ∧
    (s.mig.state = .parked b l → park s = s ∧ (unpark s).mig.state = .copying b l .absent) ∧
    (s.mig.state = .idle → park s = s ∧ unpark s = s) ∧
    ((park s).mig.last = s.mig.last ∧ (unpark s).mig.last = s.mig.last) ∧
    keepsAllBut [.bsq, .mig] s (park s) ∧ keepsAllBut [.mig] s (unpark s) ∧
    (∀ p, s.ptl.step = .waiting p → (withdrawStep s).ptl = { s.ptl with step := .none } ∧
      (withdrawStep s).bank p.bank = { s.bank p.bank with patrolSlot := none, patrolAge := 0 } ∧
      keepsOtherBanks p.bank s (withdrawStep s)) ∧
    ((∀ p, s.ptl.step ≠ .waiting p) → withdrawStep s = s) ∧
    keepsAllBut [.bsq, .ptl] s (withdrawStep s))

/-- Entering and leaving retention (R38, R40, R180, R182): banks that are IDLE with an empty host slot enter
RETAINED at once with condition and waiting work kept but for what is withdrawn, a waiting copy and a
waiting step (R38, R39, R111, R146); the last one ends the entry; the exit returns every bank to IDLE, and
its end is READY with the refresh timer started and a parked migration resumed if the hold is clear. -/
def Obligations.RetentionEntryAndExit : Prop :=
  (∀ s : State, takesCommand s → s.hpt.state = .ready → (∀ b : Bank, (s.bank b).phase ≠ .retained) →
    ∃ t, exec .enterRetention s = .next t ∧
      (∀ b : Bank, (s.bank b).phase = .idle → (s.bank b).hostSlot = none →
        (t.bank b).phase = .retained ∧ (t.bank b).debt = 0) ∧
      (∀ b : Bank, ((s.bank b).phase ≠ .idle ∨ (s.bank b).hostSlot ≠ none) →
        (t.bank b).phase = (s.bank b).phase ∧ (t.bank b).debt = (s.bank b).debt ∧
        (t.bank b).hostSlot = (s.bank b).hostSlot) ∧
      ((∀ b : Bank, (s.bank b).phase = .idle ∧ (s.bank b).hostSlot = none) →
        t.hpt = { s.hpt with state := .retained } ∧ t.refreshTimer = .stopped ∧
        t.mnt = mntCompleted .enterRetention .done s ∧ latchesOnly .maintDone s t) ∧
      ((∃ b : Bank, (s.bank b).phase ≠ .idle ∨ (s.bank b).hostSlot ≠ none) →
        t.hpt = { s.hpt with state := .enteringRetention } ∧ t.refreshTimer = s.refreshTimer ∧
        t.mnt = mntRunning .enterRetention s ∧ t.evt = s.evt) ∧
      (∀ p, s.ptl.step = .waiting p → t.ptl = { s.ptl with step := .none } ∧
        (t.bank p.bank).patrolSlot = none ∧ (t.bank p.bank).patrolAge = 0) ∧
      ((∀ p, s.ptl.step ≠ .waiting p) → t.ptl = s.ptl) ∧
      (∀ b : Bank, (∀ p, s.ptl.step = .waiting p → p.bank ≠ b) →
        (t.bank b).patrolSlot = (s.bank b).patrolSlot ∧ (t.bank b).patrolAge = (s.bank b).patrolAge) ∧
      (∀ b l, s.mnt.hold = false → s.mig.state = .copying b l .waiting →
        (t.bank b).migrationSlot = false ∧ (t.bank b).migrationAge = 0) ∧
      (∀ b : Bank, s.mnt.hold = true ∨ (∀ l, s.mig.state ≠ .copying b l .waiting) →
        (t.bank b).migrationSlot = (s.bank b).migrationSlot ∧
        (t.bank b).migrationAge = (s.bank b).migrationAge) ∧
      (∀ b : Bank, (t.bank b).condition = (s.bank b).condition ∧
        (t.bank b).hostSlot = (s.bank b).hostSlot ∧ (t.bank b).clearSlot = (s.bank b).clearSlot) ∧
      (∀ p, t.ptl.step ≠ .waiting p) ∧ t.mig = (if s.mnt.hold then s else park s).mig ∧
      keepsAllBut [.hpt, .bsq, .refreshTimer, .mig, .ptl, .mnt, .evt] s t) ∧
  (∀ s : State, takesCommand s → s.hpt.state = .retained →
    ∃ t, exec .exitRetention s = .next t ∧ t.hpt = { s.hpt with state := .leavingRetention } ∧
      t.mnt = mntRunning .exitRetention s ∧
      (∀ b : Bank, (s.bank b).phase = .retained → t.bank b = { s.bank b with phase := .idle, debt := 0 }) ∧
      (∀ b : Bank, (s.bank b).phase ≠ .retained → t.bank b = s.bank b) ∧
      keepsAllBut [.hpt, .bsq, .mnt] s t) ∧
  (∀ s : State, s.hpt.state = .leavingRetention →
    ∃ t, exec .retentionExitEnd s = .next t ∧ t.hpt = { s.hpt with state := .ready } ∧
      t.refreshTimer = .running ∧ t.mnt = { s.mnt with running := none, lastResult := .done } ∧
      latchesOnly .maintDone s t ∧
      t.mig = (if s.mnt.hold then s else unpark s).mig ∧
      keepsAllBut [.hpt, .refreshTimer, .mig, .mnt, .evt] s t)

/-- R183 whole, with what R147 says of an outstanding step: the cursor goes to the start, the command
completes with DONE, the pass counter stays and PASS_END is not latched. -/
def Obligations.RestartPatrolMovesTheCursor : Prop :=
  ∀ s : State, takesCommand s →
    ∃ t, exec .restartPatrol s = .next t ∧ t.mnt = mntCompleted .restartPatrol .done s ∧
      latchesOnly .maintDone s t ∧ t.ptl.cursor = ⟨0, 0, 0⟩ ∧ t.ptl.pass = s.ptl.pass ∧
      t.ptl.interval = s.ptl.interval ∧ t.isLatched .passEnd = s.isLatched .passEnd ∧
      (s.ptl.step = .none → t.ptl.step = .none ∧ t.banks = s.banks) ∧
      (∀ p, s.ptl.step = .waiting p → t.ptl.step = .none ∧ keepsOtherBanks p.bank s t ∧
        t.bank p.bank = { s.bank p.bank with patrolSlot := none, patrolAge := 0 }) ∧
      (∀ p m, s.ptl.step = .running p m → t.ptl.step = .running p true ∧ t.banks = s.banks) ∧
      keepsAllBut [.bsq, .ptl, .mnt, .evt] s t

/-! ### Translation and roles (5.4) -/

/-- Translation of a host access by the row's entry (R84 to R86, Table 5-3); a row that RMP calls in use and
holding L is exactly the read row of a translation of L, and the second write row that it names for a
scrub is the one that translation names (R87). -/
def Obligations.TranslationAndRoles : Prop :=
  (∀ (m : BankRemap) (l : LogicalRow) (n : LineNo),
    (m.entry? l = none →
      m.translate l n = ⟨l.regular, none⟩ ∧ (m.translate l n).fromSpareRead = false ∧
      (m.translate l n).fromSpareWrite = false) ∧
    (∀ c o, m.entry? l = some ⟨l, .active c, o⟩ →
      m.translate l n = ⟨c.physical, none⟩ ∧ (m.translate l n).fromSpareRead = true ∧
      (m.translate l n).fromSpareWrite = true) ∧
    (∀ x k r o, m.entry? l = some ⟨l, .pending none x k r, o⟩ →
      (n < k → m.translate l n = ⟨l.regular, some x.physical⟩ ∧
        (m.translate l n).fromSpareRead = false ∧ (m.translate l n).fromSpareWrite = true) ∧
      (k ≤ n → m.translate l n = ⟨l.regular, none⟩ ∧
        (m.translate l n).fromSpareRead = false ∧ (m.translate l n).fromSpareWrite = false)) ∧
    (∀ c x k r o, m.entry? l = some ⟨l, .pending (some c) x k r, o⟩ →
      (m.translate l n).source = c.physical ∧
      (m.translate l n).target = (if n < k then some x.physical else none) ∧
      (m.translate l n).fromSpareRead = true ∧ (m.translate l n).fromSpareWrite = true)) ∧
  (∀ m : BankRemap, m.Agrees →
    (∀ (p : PhysRow) (l : LogicalRow) (n : LineNo),
      (m.inUse p = true ∧ m.logicalOf p = l) ↔ (m.translate l n).source = p) ∧
    ((∀ e ∈ m.entries, ∀ e' ∈ m.entries, e.isPending = true → e'.isPending = true → e = e') →
      ∀ (l : LogicalRow) (n : LineNo), m.scrubRows (m.translate l n).source n = m.translate l n))

/-! ### Fault records and reports (7.2 to 7.6, 11.3) -/

/-- The arrival of a notice (R124, R125, R126, R128): counted in the row's record, or in a new one in the
lowest empty slot or, with the table full, in the slot of the evicted record; and a WATCH record that earns
it is promoted to the tail of the candidate queue. -/
def Obligations.NoticeIsCounted : Prop :=
  ∀ (n : Notice) (s : State),
    ((s.bank n.bank).condition = .clearing ∨ (s.remap n.bank).inUse n.row = false →
      receiveNotice n s = s) ∧
    ((s.bank n.bank).condition ≠ .clearing → (s.remap n.bank).inUse n.row = true →
      ∀ (i : Fin 32) (r : FaultRecord),
      (s.frt.slotOf? n.bank n.row = some i ∧ s.frt.slot i = some r) ∨
        (s.frt.slotOf? n.bank n.row = none ∧
          ((s.frt.slot i = none ∧ ∀ j < i, s.frt.slot j ≠ none) ∨
            ((∀ j : Fin 32, s.frt.slot j ≠ none) ∧ s.frt.evictionSlot? s.ptl.pass = some i)) ∧
          r = { bank := n.bank, row := n.row,
                logical := if n.row.val < 8192 then none else some n.logical,
                correctable := 0, uncorrectable := 0, lastLine := n.line,
                firstPass := s.ptl.pass, lastPass := s.ptl.pass,
                state := if (s.remap n.bank).isSource n.row then .migrating else .watch }) →
      ∃ r', (receiveNotice n s).frt.slot i = some r' ∧
        (∀ j : Fin 32, j ≠ i → (receiveNotice n s).frt.slot j = s.frt.slot j) ∧
        r' = { r with correctable := r'.correctable, uncorrectable := r'.uncorrectable,
                      lastLine := n.line, lastPass := s.ptl.pass, state := r'.state } ∧
        r'.correctable.val = (if n.uncorrectable then r.correctable.val
          else min 255 (r.correctable.val + 1)) ∧
        r'.uncorrectable.val = (if n.uncorrectable then min 255 (r.uncorrectable.val + 1)
          else r.uncorrectable.val) ∧
        (let earned := r.state = .watch ∧ (n.uncorrectable = true ∨
            (0 < s.hpt.threshold.val ∧ s.hpt.threshold.val ≤ r'.correctable.val))
         (earned → r'.state = .candidate ∧ (receiveNotice n s).frt.queue = s.frt.queue ++ [i]) ∧
         (¬earned → r'.state = r.state ∧ (receiveNotice n s).frt.queue = s.frt.queue)) ∧
        keepsAllBut [.frt] s (receiveNotice n s))

/-- With the table full, the WATCH record of the lowest count, then the greatest age, then the lowest slot
is evicted (R126); with no WATCH record the notice is dropped and RECORD_TABLE_FULL is latched (R127). -/
def Obligations.EvictionTakesTheQuietestWatch : Prop :=
  (∀ (f : FaultTable) (now : BitVec 16) (i : Fin 32), f.evictionSlot? now = some i ↔
    ∃ r, f.slot i = some r ∧ r.state = .watch ∧
      ∀ (j : Fin 32) (q : FaultRecord), f.slot j = some q → q.state = .watch → j ≠ i →
        evictsRather now i j r q) ∧
  (∀ (n : Notice) (s : State), (s.bank n.bank).condition ≠ .clearing →
    (s.remap n.bank).inUse n.row = true → s.frt.slotOf? n.bank n.row = none →
    (∀ i : Fin 32, s.frt.slot i ≠ none) →
    (∀ (i : Fin 32) (r : FaultRecord), s.frt.slot i = some r → r.state ≠ .watch) →
    latchesOnly .recordTableFull s (receiveNotice n s) ∧ keepsAllBut [.evt] s (receiveNotice n s)) ∧
  (∀ (n : Notice) (s : State) (i : Fin 32), (s.bank n.bank).condition ≠ .clearing →
    (s.remap n.bank).inUse n.row = true → s.frt.slotOf? n.bank n.row = none →
    (∀ i : Fin 32, s.frt.slot i ≠ none) → s.frt.evictionSlot? s.ptl.pass = some i →
    ∃ r, (receiveNotice n s).frt.slot i = some r ∧ r.bank = n.bank ∧ r.row = n.row ∧
      r.correctable.val + r.uncorrectable.val = 1 ∧
      (∀ j : Fin 32, j ≠ i → (receiveNotice n s).frt.slot j = s.frt.slot j) ∧
      keepsAllBut [.frt] s (receiveNotice n s))

/-- Decay at a pass end (R131) and the arrival of an uncorrectable report (R190). -/
def Obligations.DecayAndReports : Prop :=
  (∀ (f : FaultTable) (now : BitVec 16) (i : Fin 32) (r : FaultRecord), f.slot i = some r →
    (f.decay now).slot i =
      if r.state = .watch ∧ r.lastPass + 1 ≠ now ∧ r.lastPass + 2 ≠ now then none else some r) ∧
  (∀ (f : FaultTable) (now : BitVec 16) (i : Fin 32), f.slot i = none → (f.decay now).slot i = none) ∧
  (∀ s : State, CandidateInv s → ∀ now, (s.frt.decay now).queue = s.frt.queue) ∧
  (∀ (r : Report) (s : State), s.uer.reports.length < 8 →
    (receiveReport r s).uer = { s.uer with reports := s.uer.reports ++ [r] } ∧
    keepsAllBut [.uer] s (receiveReport r s)) ∧
  (∀ (r : Report) (s : State), 8 ≤ s.uer.reports.length →
    (receiveReport r s).uer = { s.uer with overflow := true } ∧
    latchesOnly .uerOverflow s (receiveReport r s) ∧ keepsAllBut [.uer, .evt] s (receiveReport r s)) ∧
  (∀ (n : Notice) (s : State), n.uncorrectable = true →
    sendNotice n s = receiveReport
      { bank := n.bank, logical := n.logical, row := n.row, line := n.line, source := n.reader,
        pass := s.ptl.pass } (receiveNotice n s)) ∧
  (∀ (n : Notice) (s : State), n.uncorrectable = false → sendNotice n s = receiveNotice n s)

/-! ### Invariants that every step keeps -/

/-- The reset state meets every invariant. -/
def Obligations.ResetMeetsTheInvariants : Prop :=
  State.reset.array.wf = true ∧ RequestInv State.reset ∧ RemapInv State.reset ∧ RecordInv State.reset ∧
    CandidateInv State.reset ∧ BurnInv State.reset ∧ PatrolInv State.reset ∧ EventInv State.reset ∧
    ReportInv State.reset ∧ RetentionInv State.reset ∧ CopyInv State.reset ∧ StepInv State.reset ∧
    CommandInv State.reset

/-- Every step keeps the array in its canonical form. -/
def Obligations.StepKeepsTheArrayCanonical : Prop :=
  ∀ s t : State, s.array.wf = true → step s = .next t → t.array.wf = true

/-- Every step keeps the agreement of held requests, buffers, bank slots and completions (R44, R54, R62,
R64, R66). -/
def Obligations.StepKeepsRequestsSound : Prop :=
  ∀ s t : State, RequestInv s → step s = .next t → RequestInv t

/-- Every step keeps the agreement of remap entries, spare states and the migration engine (R80, R81, R89),
and with it that the engine's copy request stands in the migration slot of its bank while it is WAITING and as
the COPY LINE of the PENDING entry's cursor line while it is RUNNING, and no other does (R30, R88, R105). -/
def Obligations.StepKeepsTheRemapTableSound : Prop :=
  (∀ s t : State, RemapInv s → step s = .next t → RemapInv t) ∧
  (∀ s t : State, RemapInv s → CopyInv s → step s = .next t → CopyInv t)

/-- Every step keeps the fault records distinct, and a MIGRATING record that of the migration's source
(R122, R123). -/
def Obligations.StepKeepsTheRecordsSound : Prop :=
  ∀ s t : State, RemapInv s → RecordInv s → step s = .next t → RecordInv t

/-- Every step keeps the candidate queue exactly the CANDIDATE records, each once (R129). -/
def Obligations.StepKeepsTheCandidateQueueExact : Prop :=
  ∀ s t : State, CandidateInv s → step s = .next t → CandidateInv t

/-- Every step keeps the slot under attempt BAD, a WRITTEN slot with its fields, and a slot that has left
BLANK out of BLANK (R151, R152). -/
def Obligations.StepKeepsTheRepairStore : Prop :=
  ∀ s t : State, BurnInv s → step s = .next t →
    BurnInv t ∧
    (∀ (i : Fin 48) (b : Bank) (l : LogicalRow) (x : SpareIdx),
      s.rps.slot i = .written b l x → t.rps.slot i = .written b l x) ∧
    (∀ i : Fin 48, s.rps.slot i ≠ .blank → t.rps.slot i ≠ .blank)

/-- Every step keeps the unnamed event bits 0, the report queue within 8 with its flag clear when empty,
and the cursor at the outstanding step's position (R138, R185, R188, R190, R192); that PTL's step stands in the
patrol slot of its bank while it is WAITING and as its SCRUB LINE while it is RUNNING, and no other does (R31,
R141, R142); and that a command is RUNNING exactly while its work lasts, the bank clear alone filling a clear
slot (R115, R157, R175 to R177, R180, R182). -/
def Obligations.StepKeepsEventsReportsAndCursor : Prop :=
  ∀ s t : State, step s = .next t →
    (EventInv s → EventInv t) ∧ (ReportInv s → ReportInv t) ∧ (PatrolInv s → PatrolInv t) ∧
    (StepInv s → StepInv t) ∧ (RemapInv s → CopyInv s → CommandInv s → CommandInv t)

/-- Every step keeps what R24, R38 and R39 say of RETAINED banks and of the refresh timer. -/
def Obligations.StepKeepsRetentionSound : Prop :=
  ∀ s t : State, RetentionInv s → step s = .next t → RetentionInv t
end

