-- ==== Sys2Proof/Laws/State.lean ====
section
/-! SUPPORT. One lemma per field per setter of the state, each true by rfl. -/

namespace Sys2Proof.Machine

/-! #### setHpt -/

@[simp] theorem State.setHpt_powered (s : State) (v : HostPort) : (s.setHpt v).powered = s.powered := rfl
@[simp] theorem State.setHpt_rstAsserted (s : State) (v : HostPort) : (s.setHpt v).rstAsserted = s.rstAsserted := rfl
@[simp] theorem State.setHpt_hpt (s : State) (v : HostPort) : (s.setHpt v).hpt = v := rfl
@[simp] theorem State.setHpt_req (s : State) (v : HostPort) : (s.setHpt v).req = s.req := rfl
@[simp] theorem State.setHpt_buf (s : State) (v : HostPort) : (s.setHpt v).buf = s.buf := rfl
@[simp] theorem State.setHpt_cpl (s : State) (v : HostPort) : (s.setHpt v).cpl = s.cpl := rfl
@[simp] theorem State.setHpt_banks (s : State) (v : HostPort) : (s.setHpt v).banks = s.banks := rfl
@[simp] theorem State.setHpt_refreshTimer (s : State) (v : HostPort) : (s.setHpt v).refreshTimer = s.refreshTimer := rfl
@[simp] theorem State.setHpt_rmp (s : State) (v : HostPort) : (s.setHpt v).rmp = s.rmp := rfl
@[simp] theorem State.setHpt_mig (s : State) (v : HostPort) : (s.setHpt v).mig = s.mig := rfl
@[simp] theorem State.setHpt_frt (s : State) (v : HostPort) : (s.setHpt v).frt = s.frt := rfl
@[simp] theorem State.setHpt_ptl (s : State) (v : HostPort) : (s.setHpt v).ptl = s.ptl := rfl
@[simp] theorem State.setHpt_rps (s : State) (v : HostPort) : (s.setHpt v).rps = s.rps := rfl
@[simp] theorem State.setHpt_mnt (s : State) (v : HostPort) : (s.setHpt v).mnt = s.mnt := rfl
@[simp] theorem State.setHpt_evt (s : State) (v : HostPort) : (s.setHpt v).evt = s.evt := rfl
@[simp] theorem State.setHpt_uer (s : State) (v : HostPort) : (s.setHpt v).uer = s.uer := rfl
@[simp] theorem State.setHpt_array (s : State) (v : HostPort) : (s.setHpt v).array = s.array := rfl
@[simp] theorem State.setHpt_readData (s : State) (v : HostPort) : (s.setHpt v).readData = s.readData := rfl
@[simp] theorem State.setHpt_lineReads (s : State) (v : HostPort) : (s.setHpt v).lineReads = s.lineReads := rfl
@[simp] theorem State.setHpt_pending (s : State) (v : HostPort) : (s.setHpt v).pending = s.pending := rfl

/-! #### setReq -/

@[simp] theorem State.setReq_powered (s : State) (v : RequestQueue) : (s.setReq v).powered = s.powered := rfl
@[simp] theorem State.setReq_rstAsserted (s : State) (v : RequestQueue) : (s.setReq v).rstAsserted = s.rstAsserted := rfl
@[simp] theorem State.setReq_hpt (s : State) (v : RequestQueue) : (s.setReq v).hpt = s.hpt := rfl
@[simp] theorem State.setReq_req (s : State) (v : RequestQueue) : (s.setReq v).req = v := rfl
@[simp] theorem State.setReq_buf (s : State) (v : RequestQueue) : (s.setReq v).buf = s.buf := rfl
@[simp] theorem State.setReq_cpl (s : State) (v : RequestQueue) : (s.setReq v).cpl = s.cpl := rfl
@[simp] theorem State.setReq_banks (s : State) (v : RequestQueue) : (s.setReq v).banks = s.banks := rfl
@[simp] theorem State.setReq_refreshTimer (s : State) (v : RequestQueue) : (s.setReq v).refreshTimer = s.refreshTimer := rfl
@[simp] theorem State.setReq_rmp (s : State) (v : RequestQueue) : (s.setReq v).rmp = s.rmp := rfl
@[simp] theorem State.setReq_mig (s : State) (v : RequestQueue) : (s.setReq v).mig = s.mig := rfl
@[simp] theorem State.setReq_frt (s : State) (v : RequestQueue) : (s.setReq v).frt = s.frt := rfl
@[simp] theorem State.setReq_ptl (s : State) (v : RequestQueue) : (s.setReq v).ptl = s.ptl := rfl
@[simp] theorem State.setReq_rps (s : State) (v : RequestQueue) : (s.setReq v).rps = s.rps := rfl
@[simp] theorem State.setReq_mnt (s : State) (v : RequestQueue) : (s.setReq v).mnt = s.mnt := rfl
@[simp] theorem State.setReq_evt (s : State) (v : RequestQueue) : (s.setReq v).evt = s.evt := rfl
@[simp] theorem State.setReq_uer (s : State) (v : RequestQueue) : (s.setReq v).uer = s.uer := rfl
@[simp] theorem State.setReq_array (s : State) (v : RequestQueue) : (s.setReq v).array = s.array := rfl
@[simp] theorem State.setReq_readData (s : State) (v : RequestQueue) : (s.setReq v).readData = s.readData := rfl
@[simp] theorem State.setReq_lineReads (s : State) (v : RequestQueue) : (s.setReq v).lineReads = s.lineReads := rfl
@[simp] theorem State.setReq_pending (s : State) (v : RequestQueue) : (s.setReq v).pending = s.pending := rfl

/-! #### setBuf -/

@[simp] theorem State.setBuf_powered (s : State) (v : Buffers) : (s.setBuf v).powered = s.powered := rfl
@[simp] theorem State.setBuf_rstAsserted (s : State) (v : Buffers) : (s.setBuf v).rstAsserted = s.rstAsserted := rfl
@[simp] theorem State.setBuf_hpt (s : State) (v : Buffers) : (s.setBuf v).hpt = s.hpt := rfl
@[simp] theorem State.setBuf_req (s : State) (v : Buffers) : (s.setBuf v).req = s.req := rfl
@[simp] theorem State.setBuf_buf (s : State) (v : Buffers) : (s.setBuf v).buf = v := rfl
@[simp] theorem State.setBuf_cpl (s : State) (v : Buffers) : (s.setBuf v).cpl = s.cpl := rfl
@[simp] theorem State.setBuf_banks (s : State) (v : Buffers) : (s.setBuf v).banks = s.banks := rfl
@[simp] theorem State.setBuf_refreshTimer (s : State) (v : Buffers) : (s.setBuf v).refreshTimer = s.refreshTimer := rfl
@[simp] theorem State.setBuf_rmp (s : State) (v : Buffers) : (s.setBuf v).rmp = s.rmp := rfl
@[simp] theorem State.setBuf_mig (s : State) (v : Buffers) : (s.setBuf v).mig = s.mig := rfl
@[simp] theorem State.setBuf_frt (s : State) (v : Buffers) : (s.setBuf v).frt = s.frt := rfl
@[simp] theorem State.setBuf_ptl (s : State) (v : Buffers) : (s.setBuf v).ptl = s.ptl := rfl
@[simp] theorem State.setBuf_rps (s : State) (v : Buffers) : (s.setBuf v).rps = s.rps := rfl
@[simp] theorem State.setBuf_mnt (s : State) (v : Buffers) : (s.setBuf v).mnt = s.mnt := rfl
@[simp] theorem State.setBuf_evt (s : State) (v : Buffers) : (s.setBuf v).evt = s.evt := rfl
@[simp] theorem State.setBuf_uer (s : State) (v : Buffers) : (s.setBuf v).uer = s.uer := rfl
@[simp] theorem State.setBuf_array (s : State) (v : Buffers) : (s.setBuf v).array = s.array := rfl
@[simp] theorem State.setBuf_readData (s : State) (v : Buffers) : (s.setBuf v).readData = s.readData := rfl
@[simp] theorem State.setBuf_lineReads (s : State) (v : Buffers) : (s.setBuf v).lineReads = s.lineReads := rfl
@[simp] theorem State.setBuf_pending (s : State) (v : Buffers) : (s.setBuf v).pending = s.pending := rfl

/-! #### setCpl -/

@[simp] theorem State.setCpl_powered (s : State) (v : List Completion) : (s.setCpl v).powered = s.powered := rfl
@[simp] theorem State.setCpl_rstAsserted (s : State) (v : List Completion) : (s.setCpl v).rstAsserted = s.rstAsserted := rfl
@[simp] theorem State.setCpl_hpt (s : State) (v : List Completion) : (s.setCpl v).hpt = s.hpt := rfl
@[simp] theorem State.setCpl_req (s : State) (v : List Completion) : (s.setCpl v).req = s.req := rfl
@[simp] theorem State.setCpl_buf (s : State) (v : List Completion) : (s.setCpl v).buf = s.buf := rfl
@[simp] theorem State.setCpl_cpl (s : State) (v : List Completion) : (s.setCpl v).cpl = v := rfl
@[simp] theorem State.setCpl_banks (s : State) (v : List Completion) : (s.setCpl v).banks = s.banks := rfl
@[simp] theorem State.setCpl_refreshTimer (s : State) (v : List Completion) : (s.setCpl v).refreshTimer = s.refreshTimer := rfl
@[simp] theorem State.setCpl_rmp (s : State) (v : List Completion) : (s.setCpl v).rmp = s.rmp := rfl
@[simp] theorem State.setCpl_mig (s : State) (v : List Completion) : (s.setCpl v).mig = s.mig := rfl
@[simp] theorem State.setCpl_frt (s : State) (v : List Completion) : (s.setCpl v).frt = s.frt := rfl
@[simp] theorem State.setCpl_ptl (s : State) (v : List Completion) : (s.setCpl v).ptl = s.ptl := rfl
@[simp] theorem State.setCpl_rps (s : State) (v : List Completion) : (s.setCpl v).rps = s.rps := rfl
@[simp] theorem State.setCpl_mnt (s : State) (v : List Completion) : (s.setCpl v).mnt = s.mnt := rfl
@[simp] theorem State.setCpl_evt (s : State) (v : List Completion) : (s.setCpl v).evt = s.evt := rfl
@[simp] theorem State.setCpl_uer (s : State) (v : List Completion) : (s.setCpl v).uer = s.uer := rfl
@[simp] theorem State.setCpl_array (s : State) (v : List Completion) : (s.setCpl v).array = s.array := rfl
@[simp] theorem State.setCpl_readData (s : State) (v : List Completion) : (s.setCpl v).readData = s.readData := rfl
@[simp] theorem State.setCpl_lineReads (s : State) (v : List Completion) : (s.setCpl v).lineReads = s.lineReads := rfl
@[simp] theorem State.setCpl_pending (s : State) (v : List Completion) : (s.setCpl v).pending = s.pending := rfl

/-! #### setBanks -/

@[simp] theorem State.setBanks_powered (s : State) (v : Vector BankSection 8) : (s.setBanks v).powered = s.powered := rfl
@[simp] theorem State.setBanks_rstAsserted (s : State) (v : Vector BankSection 8) : (s.setBanks v).rstAsserted = s.rstAsserted := rfl
@[simp] theorem State.setBanks_hpt (s : State) (v : Vector BankSection 8) : (s.setBanks v).hpt = s.hpt := rfl
@[simp] theorem State.setBanks_req (s : State) (v : Vector BankSection 8) : (s.setBanks v).req = s.req := rfl
@[simp] theorem State.setBanks_buf (s : State) (v : Vector BankSection 8) : (s.setBanks v).buf = s.buf := rfl
@[simp] theorem State.setBanks_cpl (s : State) (v : Vector BankSection 8) : (s.setBanks v).cpl = s.cpl := rfl
@[simp] theorem State.setBanks_banks (s : State) (v : Vector BankSection 8) : (s.setBanks v).banks = v := rfl
@[simp] theorem State.setBanks_refreshTimer (s : State) (v : Vector BankSection 8) : (s.setBanks v).refreshTimer = s.refreshTimer := rfl
@[simp] theorem State.setBanks_rmp (s : State) (v : Vector BankSection 8) : (s.setBanks v).rmp = s.rmp := rfl
@[simp] theorem State.setBanks_mig (s : State) (v : Vector BankSection 8) : (s.setBanks v).mig = s.mig := rfl
@[simp] theorem State.setBanks_frt (s : State) (v : Vector BankSection 8) : (s.setBanks v).frt = s.frt := rfl
@[simp] theorem State.setBanks_ptl (s : State) (v : Vector BankSection 8) : (s.setBanks v).ptl = s.ptl := rfl
@[simp] theorem State.setBanks_rps (s : State) (v : Vector BankSection 8) : (s.setBanks v).rps = s.rps := rfl
@[simp] theorem State.setBanks_mnt (s : State) (v : Vector BankSection 8) : (s.setBanks v).mnt = s.mnt := rfl
@[simp] theorem State.setBanks_evt (s : State) (v : Vector BankSection 8) : (s.setBanks v).evt = s.evt := rfl
@[simp] theorem State.setBanks_uer (s : State) (v : Vector BankSection 8) : (s.setBanks v).uer = s.uer := rfl
@[simp] theorem State.setBanks_array (s : State) (v : Vector BankSection 8) : (s.setBanks v).array = s.array := rfl
@[simp] theorem State.setBanks_readData (s : State) (v : Vector BankSection 8) : (s.setBanks v).readData = s.readData := rfl
@[simp] theorem State.setBanks_lineReads (s : State) (v : Vector BankSection 8) : (s.setBanks v).lineReads = s.lineReads := rfl
@[simp] theorem State.setBanks_pending (s : State) (v : Vector BankSection 8) : (s.setBanks v).pending = s.pending := rfl

/-! #### setRefreshTimer -/

@[simp] theorem State.setRefreshTimer_powered (s : State) (v : TimerState) : (s.setRefreshTimer v).powered = s.powered := rfl
@[simp] theorem State.setRefreshTimer_rstAsserted (s : State) (v : TimerState) : (s.setRefreshTimer v).rstAsserted = s.rstAsserted := rfl
@[simp] theorem State.setRefreshTimer_hpt (s : State) (v : TimerState) : (s.setRefreshTimer v).hpt = s.hpt := rfl
@[simp] theorem State.setRefreshTimer_req (s : State) (v : TimerState) : (s.setRefreshTimer v).req = s.req := rfl
@[simp] theorem State.setRefreshTimer_buf (s : State) (v : TimerState) : (s.setRefreshTimer v).buf = s.buf := rfl
@[simp] theorem State.setRefreshTimer_cpl (s : State) (v : TimerState) : (s.setRefreshTimer v).cpl = s.cpl := rfl
@[simp] theorem State.setRefreshTimer_banks (s : State) (v : TimerState) : (s.setRefreshTimer v).banks = s.banks := rfl
@[simp] theorem State.setRefreshTimer_refreshTimer (s : State) (v : TimerState) : (s.setRefreshTimer v).refreshTimer = v := rfl
@[simp] theorem State.setRefreshTimer_rmp (s : State) (v : TimerState) : (s.setRefreshTimer v).rmp = s.rmp := rfl
@[simp] theorem State.setRefreshTimer_mig (s : State) (v : TimerState) : (s.setRefreshTimer v).mig = s.mig := rfl
@[simp] theorem State.setRefreshTimer_frt (s : State) (v : TimerState) : (s.setRefreshTimer v).frt = s.frt := rfl
@[simp] theorem State.setRefreshTimer_ptl (s : State) (v : TimerState) : (s.setRefreshTimer v).ptl = s.ptl := rfl
@[simp] theorem State.setRefreshTimer_rps (s : State) (v : TimerState) : (s.setRefreshTimer v).rps = s.rps := rfl
@[simp] theorem State.setRefreshTimer_mnt (s : State) (v : TimerState) : (s.setRefreshTimer v).mnt = s.mnt := rfl
@[simp] theorem State.setRefreshTimer_evt (s : State) (v : TimerState) : (s.setRefreshTimer v).evt = s.evt := rfl
@[simp] theorem State.setRefreshTimer_uer (s : State) (v : TimerState) : (s.setRefreshTimer v).uer = s.uer := rfl
@[simp] theorem State.setRefreshTimer_array (s : State) (v : TimerState) : (s.setRefreshTimer v).array = s.array := rfl
@[simp] theorem State.setRefreshTimer_readData (s : State) (v : TimerState) : (s.setRefreshTimer v).readData = s.readData := rfl
@[simp] theorem State.setRefreshTimer_lineReads (s : State) (v : TimerState) : (s.setRefreshTimer v).lineReads = s.lineReads := rfl
@[simp] theorem State.setRefreshTimer_pending (s : State) (v : TimerState) : (s.setRefreshTimer v).pending = s.pending := rfl

/-! #### setRmp -/

@[simp] theorem State.setRmp_powered (s : State) (v : RemapTable) : (s.setRmp v).powered = s.powered := rfl
@[simp] theorem State.setRmp_rstAsserted (s : State) (v : RemapTable) : (s.setRmp v).rstAsserted = s.rstAsserted := rfl
@[simp] theorem State.setRmp_hpt (s : State) (v : RemapTable) : (s.setRmp v).hpt = s.hpt := rfl
@[simp] theorem State.setRmp_req (s : State) (v : RemapTable) : (s.setRmp v).req = s.req := rfl
@[simp] theorem State.setRmp_buf (s : State) (v : RemapTable) : (s.setRmp v).buf = s.buf := rfl
@[simp] theorem State.setRmp_cpl (s : State) (v : RemapTable) : (s.setRmp v).cpl = s.cpl := rfl
@[simp] theorem State.setRmp_banks (s : State) (v : RemapTable) : (s.setRmp v).banks = s.banks := rfl
@[simp] theorem State.setRmp_refreshTimer (s : State) (v : RemapTable) : (s.setRmp v).refreshTimer = s.refreshTimer := rfl
@[simp] theorem State.setRmp_rmp (s : State) (v : RemapTable) : (s.setRmp v).rmp = v := rfl
@[simp] theorem State.setRmp_mig (s : State) (v : RemapTable) : (s.setRmp v).mig = s.mig := rfl
@[simp] theorem State.setRmp_frt (s : State) (v : RemapTable) : (s.setRmp v).frt = s.frt := rfl
@[simp] theorem State.setRmp_ptl (s : State) (v : RemapTable) : (s.setRmp v).ptl = s.ptl := rfl
@[simp] theorem State.setRmp_rps (s : State) (v : RemapTable) : (s.setRmp v).rps = s.rps := rfl
@[simp] theorem State.setRmp_mnt (s : State) (v : RemapTable) : (s.setRmp v).mnt = s.mnt := rfl
@[simp] theorem State.setRmp_evt (s : State) (v : RemapTable) : (s.setRmp v).evt = s.evt := rfl
@[simp] theorem State.setRmp_uer (s : State) (v : RemapTable) : (s.setRmp v).uer = s.uer := rfl
@[simp] theorem State.setRmp_array (s : State) (v : RemapTable) : (s.setRmp v).array = s.array := rfl
@[simp] theorem State.setRmp_readData (s : State) (v : RemapTable) : (s.setRmp v).readData = s.readData := rfl
@[simp] theorem State.setRmp_lineReads (s : State) (v : RemapTable) : (s.setRmp v).lineReads = s.lineReads := rfl
@[simp] theorem State.setRmp_pending (s : State) (v : RemapTable) : (s.setRmp v).pending = s.pending := rfl

/-! #### setMig -/

@[simp] theorem State.setMig_powered (s : State) (v : Engine) : (s.setMig v).powered = s.powered := rfl
@[simp] theorem State.setMig_rstAsserted (s : State) (v : Engine) : (s.setMig v).rstAsserted = s.rstAsserted := rfl
@[simp] theorem State.setMig_hpt (s : State) (v : Engine) : (s.setMig v).hpt = s.hpt := rfl
@[simp] theorem State.setMig_req (s : State) (v : Engine) : (s.setMig v).req = s.req := rfl
@[simp] theorem State.setMig_buf (s : State) (v : Engine) : (s.setMig v).buf = s.buf := rfl
@[simp] theorem State.setMig_cpl (s : State) (v : Engine) : (s.setMig v).cpl = s.cpl := rfl
@[simp] theorem State.setMig_banks (s : State) (v : Engine) : (s.setMig v).banks = s.banks := rfl
@[simp] theorem State.setMig_refreshTimer (s : State) (v : Engine) : (s.setMig v).refreshTimer = s.refreshTimer := rfl
@[simp] theorem State.setMig_rmp (s : State) (v : Engine) : (s.setMig v).rmp = s.rmp := rfl
@[simp] theorem State.setMig_mig (s : State) (v : Engine) : (s.setMig v).mig = v := rfl
@[simp] theorem State.setMig_frt (s : State) (v : Engine) : (s.setMig v).frt = s.frt := rfl
@[simp] theorem State.setMig_ptl (s : State) (v : Engine) : (s.setMig v).ptl = s.ptl := rfl
@[simp] theorem State.setMig_rps (s : State) (v : Engine) : (s.setMig v).rps = s.rps := rfl
@[simp] theorem State.setMig_mnt (s : State) (v : Engine) : (s.setMig v).mnt = s.mnt := rfl
@[simp] theorem State.setMig_evt (s : State) (v : Engine) : (s.setMig v).evt = s.evt := rfl
@[simp] theorem State.setMig_uer (s : State) (v : Engine) : (s.setMig v).uer = s.uer := rfl
@[simp] theorem State.setMig_array (s : State) (v : Engine) : (s.setMig v).array = s.array := rfl
@[simp] theorem State.setMig_readData (s : State) (v : Engine) : (s.setMig v).readData = s.readData := rfl
@[simp] theorem State.setMig_lineReads (s : State) (v : Engine) : (s.setMig v).lineReads = s.lineReads := rfl
@[simp] theorem State.setMig_pending (s : State) (v : Engine) : (s.setMig v).pending = s.pending := rfl

/-! #### setFrt -/

@[simp] theorem State.setFrt_powered (s : State) (v : FaultTable) : (s.setFrt v).powered = s.powered := rfl
@[simp] theorem State.setFrt_rstAsserted (s : State) (v : FaultTable) : (s.setFrt v).rstAsserted = s.rstAsserted := rfl
@[simp] theorem State.setFrt_hpt (s : State) (v : FaultTable) : (s.setFrt v).hpt = s.hpt := rfl
@[simp] theorem State.setFrt_req (s : State) (v : FaultTable) : (s.setFrt v).req = s.req := rfl
@[simp] theorem State.setFrt_buf (s : State) (v : FaultTable) : (s.setFrt v).buf = s.buf := rfl
@[simp] theorem State.setFrt_cpl (s : State) (v : FaultTable) : (s.setFrt v).cpl = s.cpl := rfl
@[simp] theorem State.setFrt_banks (s : State) (v : FaultTable) : (s.setFrt v).banks = s.banks := rfl
@[simp] theorem State.setFrt_refreshTimer (s : State) (v : FaultTable) : (s.setFrt v).refreshTimer = s.refreshTimer := rfl
@[simp] theorem State.setFrt_rmp (s : State) (v : FaultTable) : (s.setFrt v).rmp = s.rmp := rfl
@[simp] theorem State.setFrt_mig (s : State) (v : FaultTable) : (s.setFrt v).mig = s.mig := rfl
@[simp] theorem State.setFrt_frt (s : State) (v : FaultTable) : (s.setFrt v).frt = v := rfl
@[simp] theorem State.setFrt_ptl (s : State) (v : FaultTable) : (s.setFrt v).ptl = s.ptl := rfl
@[simp] theorem State.setFrt_rps (s : State) (v : FaultTable) : (s.setFrt v).rps = s.rps := rfl
@[simp] theorem State.setFrt_mnt (s : State) (v : FaultTable) : (s.setFrt v).mnt = s.mnt := rfl
@[simp] theorem State.setFrt_evt (s : State) (v : FaultTable) : (s.setFrt v).evt = s.evt := rfl
@[simp] theorem State.setFrt_uer (s : State) (v : FaultTable) : (s.setFrt v).uer = s.uer := rfl
@[simp] theorem State.setFrt_array (s : State) (v : FaultTable) : (s.setFrt v).array = s.array := rfl
@[simp] theorem State.setFrt_readData (s : State) (v : FaultTable) : (s.setFrt v).readData = s.readData := rfl
@[simp] theorem State.setFrt_lineReads (s : State) (v : FaultTable) : (s.setFrt v).lineReads = s.lineReads := rfl
@[simp] theorem State.setFrt_pending (s : State) (v : FaultTable) : (s.setFrt v).pending = s.pending := rfl

/-! #### setPtl -/

@[simp] theorem State.setPtl_powered (s : State) (v : Patrol) : (s.setPtl v).powered = s.powered := rfl
@[simp] theorem State.setPtl_rstAsserted (s : State) (v : Patrol) : (s.setPtl v).rstAsserted = s.rstAsserted := rfl
@[simp] theorem State.setPtl_hpt (s : State) (v : Patrol) : (s.setPtl v).hpt = s.hpt := rfl
@[simp] theorem State.setPtl_req (s : State) (v : Patrol) : (s.setPtl v).req = s.req := rfl
@[simp] theorem State.setPtl_buf (s : State) (v : Patrol) : (s.setPtl v).buf = s.buf := rfl
@[simp] theorem State.setPtl_cpl (s : State) (v : Patrol) : (s.setPtl v).cpl = s.cpl := rfl
@[simp] theorem State.setPtl_banks (s : State) (v : Patrol) : (s.setPtl v).banks = s.banks := rfl
@[simp] theorem State.setPtl_refreshTimer (s : State) (v : Patrol) : (s.setPtl v).refreshTimer = s.refreshTimer := rfl
@[simp] theorem State.setPtl_rmp (s : State) (v : Patrol) : (s.setPtl v).rmp = s.rmp := rfl
@[simp] theorem State.setPtl_mig (s : State) (v : Patrol) : (s.setPtl v).mig = s.mig := rfl
@[simp] theorem State.setPtl_frt (s : State) (v : Patrol) : (s.setPtl v).frt = s.frt := rfl
@[simp] theorem State.setPtl_ptl (s : State) (v : Patrol) : (s.setPtl v).ptl = v := rfl
@[simp] theorem State.setPtl_rps (s : State) (v : Patrol) : (s.setPtl v).rps = s.rps := rfl
@[simp] theorem State.setPtl_mnt (s : State) (v : Patrol) : (s.setPtl v).mnt = s.mnt := rfl
@[simp] theorem State.setPtl_evt (s : State) (v : Patrol) : (s.setPtl v).evt = s.evt := rfl
@[simp] theorem State.setPtl_uer (s : State) (v : Patrol) : (s.setPtl v).uer = s.uer := rfl
@[simp] theorem State.setPtl_array (s : State) (v : Patrol) : (s.setPtl v).array = s.array := rfl
@[simp] theorem State.setPtl_readData (s : State) (v : Patrol) : (s.setPtl v).readData = s.readData := rfl
@[simp] theorem State.setPtl_lineReads (s : State) (v : Patrol) : (s.setPtl v).lineReads = s.lineReads := rfl
@[simp] theorem State.setPtl_pending (s : State) (v : Patrol) : (s.setPtl v).pending = s.pending := rfl

/-! #### setRps -/

@[simp] theorem State.setRps_powered (s : State) (v : RepairStore) : (s.setRps v).powered = s.powered := rfl
@[simp] theorem State.setRps_rstAsserted (s : State) (v : RepairStore) : (s.setRps v).rstAsserted = s.rstAsserted := rfl
@[simp] theorem State.setRps_hpt (s : State) (v : RepairStore) : (s.setRps v).hpt = s.hpt := rfl
@[simp] theorem State.setRps_req (s : State) (v : RepairStore) : (s.setRps v).req = s.req := rfl
@[simp] theorem State.setRps_buf (s : State) (v : RepairStore) : (s.setRps v).buf = s.buf := rfl
@[simp] theorem State.setRps_cpl (s : State) (v : RepairStore) : (s.setRps v).cpl = s.cpl := rfl
@[simp] theorem State.setRps_banks (s : State) (v : RepairStore) : (s.setRps v).banks = s.banks := rfl
@[simp] theorem State.setRps_refreshTimer (s : State) (v : RepairStore) : (s.setRps v).refreshTimer = s.refreshTimer := rfl
@[simp] theorem State.setRps_rmp (s : State) (v : RepairStore) : (s.setRps v).rmp = s.rmp := rfl
@[simp] theorem State.setRps_mig (s : State) (v : RepairStore) : (s.setRps v).mig = s.mig := rfl
@[simp] theorem State.setRps_frt (s : State) (v : RepairStore) : (s.setRps v).frt = s.frt := rfl
@[simp] theorem State.setRps_ptl (s : State) (v : RepairStore) : (s.setRps v).ptl = s.ptl := rfl
@[simp] theorem State.setRps_rps (s : State) (v : RepairStore) : (s.setRps v).rps = v := rfl
@[simp] theorem State.setRps_mnt (s : State) (v : RepairStore) : (s.setRps v).mnt = s.mnt := rfl
@[simp] theorem State.setRps_evt (s : State) (v : RepairStore) : (s.setRps v).evt = s.evt := rfl
@[simp] theorem State.setRps_uer (s : State) (v : RepairStore) : (s.setRps v).uer = s.uer := rfl
@[simp] theorem State.setRps_array (s : State) (v : RepairStore) : (s.setRps v).array = s.array := rfl
@[simp] theorem State.setRps_readData (s : State) (v : RepairStore) : (s.setRps v).readData = s.readData := rfl
@[simp] theorem State.setRps_lineReads (s : State) (v : RepairStore) : (s.setRps v).lineReads = s.lineReads := rfl
@[simp] theorem State.setRps_pending (s : State) (v : RepairStore) : (s.setRps v).pending = s.pending := rfl

/-! #### setMnt -/

@[simp] theorem State.setMnt_powered (s : State) (v : Maintenance) : (s.setMnt v).powered = s.powered := rfl
@[simp] theorem State.setMnt_rstAsserted (s : State) (v : Maintenance) : (s.setMnt v).rstAsserted = s.rstAsserted := rfl
@[simp] theorem State.setMnt_hpt (s : State) (v : Maintenance) : (s.setMnt v).hpt = s.hpt := rfl
@[simp] theorem State.setMnt_req (s : State) (v : Maintenance) : (s.setMnt v).req = s.req := rfl
@[simp] theorem State.setMnt_buf (s : State) (v : Maintenance) : (s.setMnt v).buf = s.buf := rfl
@[simp] theorem State.setMnt_cpl (s : State) (v : Maintenance) : (s.setMnt v).cpl = s.cpl := rfl
@[simp] theorem State.setMnt_banks (s : State) (v : Maintenance) : (s.setMnt v).banks = s.banks := rfl
@[simp] theorem State.setMnt_refreshTimer (s : State) (v : Maintenance) : (s.setMnt v).refreshTimer = s.refreshTimer := rfl
@[simp] theorem State.setMnt_rmp (s : State) (v : Maintenance) : (s.setMnt v).rmp = s.rmp := rfl
@[simp] theorem State.setMnt_mig (s : State) (v : Maintenance) : (s.setMnt v).mig = s.mig := rfl
@[simp] theorem State.setMnt_frt (s : State) (v : Maintenance) : (s.setMnt v).frt = s.frt := rfl
@[simp] theorem State.setMnt_ptl (s : State) (v : Maintenance) : (s.setMnt v).ptl = s.ptl := rfl
@[simp] theorem State.setMnt_rps (s : State) (v : Maintenance) : (s.setMnt v).rps = s.rps := rfl
@[simp] theorem State.setMnt_mnt (s : State) (v : Maintenance) : (s.setMnt v).mnt = v := rfl
@[simp] theorem State.setMnt_evt (s : State) (v : Maintenance) : (s.setMnt v).evt = s.evt := rfl
@[simp] theorem State.setMnt_uer (s : State) (v : Maintenance) : (s.setMnt v).uer = s.uer := rfl
@[simp] theorem State.setMnt_array (s : State) (v : Maintenance) : (s.setMnt v).array = s.array := rfl
@[simp] theorem State.setMnt_readData (s : State) (v : Maintenance) : (s.setMnt v).readData = s.readData := rfl
@[simp] theorem State.setMnt_lineReads (s : State) (v : Maintenance) : (s.setMnt v).lineReads = s.lineReads := rfl
@[simp] theorem State.setMnt_pending (s : State) (v : Maintenance) : (s.setMnt v).pending = s.pending := rfl

/-! #### setEvt -/

@[simp] theorem State.setEvt_powered (s : State) (v : EventUnit) : (s.setEvt v).powered = s.powered := rfl
@[simp] theorem State.setEvt_rstAsserted (s : State) (v : EventUnit) : (s.setEvt v).rstAsserted = s.rstAsserted := rfl
@[simp] theorem State.setEvt_hpt (s : State) (v : EventUnit) : (s.setEvt v).hpt = s.hpt := rfl
@[simp] theorem State.setEvt_req (s : State) (v : EventUnit) : (s.setEvt v).req = s.req := rfl
@[simp] theorem State.setEvt_buf (s : State) (v : EventUnit) : (s.setEvt v).buf = s.buf := rfl
@[simp] theorem State.setEvt_cpl (s : State) (v : EventUnit) : (s.setEvt v).cpl = s.cpl := rfl
@[simp] theorem State.setEvt_banks (s : State) (v : EventUnit) : (s.setEvt v).banks = s.banks := rfl
@[simp] theorem State.setEvt_refreshTimer (s : State) (v : EventUnit) : (s.setEvt v).refreshTimer = s.refreshTimer := rfl
@[simp] theorem State.setEvt_rmp (s : State) (v : EventUnit) : (s.setEvt v).rmp = s.rmp := rfl
@[simp] theorem State.setEvt_mig (s : State) (v : EventUnit) : (s.setEvt v).mig = s.mig := rfl
@[simp] theorem State.setEvt_frt (s : State) (v : EventUnit) : (s.setEvt v).frt = s.frt := rfl
@[simp] theorem State.setEvt_ptl (s : State) (v : EventUnit) : (s.setEvt v).ptl = s.ptl := rfl
@[simp] theorem State.setEvt_rps (s : State) (v : EventUnit) : (s.setEvt v).rps = s.rps := rfl
@[simp] theorem State.setEvt_mnt (s : State) (v : EventUnit) : (s.setEvt v).mnt = s.mnt := rfl
@[simp] theorem State.setEvt_evt (s : State) (v : EventUnit) : (s.setEvt v).evt = v := rfl
@[simp] theorem State.setEvt_uer (s : State) (v : EventUnit) : (s.setEvt v).uer = s.uer := rfl
@[simp] theorem State.setEvt_array (s : State) (v : EventUnit) : (s.setEvt v).array = s.array := rfl
@[simp] theorem State.setEvt_readData (s : State) (v : EventUnit) : (s.setEvt v).readData = s.readData := rfl
@[simp] theorem State.setEvt_lineReads (s : State) (v : EventUnit) : (s.setEvt v).lineReads = s.lineReads := rfl
@[simp] theorem State.setEvt_pending (s : State) (v : EventUnit) : (s.setEvt v).pending = s.pending := rfl

/-! #### setUer -/

@[simp] theorem State.setUer_powered (s : State) (v : ReportQueue) : (s.setUer v).powered = s.powered := rfl
@[simp] theorem State.setUer_rstAsserted (s : State) (v : ReportQueue) : (s.setUer v).rstAsserted = s.rstAsserted := rfl
@[simp] theorem State.setUer_hpt (s : State) (v : ReportQueue) : (s.setUer v).hpt = s.hpt := rfl
@[simp] theorem State.setUer_req (s : State) (v : ReportQueue) : (s.setUer v).req = s.req := rfl
@[simp] theorem State.setUer_buf (s : State) (v : ReportQueue) : (s.setUer v).buf = s.buf := rfl
@[simp] theorem State.setUer_cpl (s : State) (v : ReportQueue) : (s.setUer v).cpl = s.cpl := rfl
@[simp] theorem State.setUer_banks (s : State) (v : ReportQueue) : (s.setUer v).banks = s.banks := rfl
@[simp] theorem State.setUer_refreshTimer (s : State) (v : ReportQueue) : (s.setUer v).refreshTimer = s.refreshTimer := rfl
@[simp] theorem State.setUer_rmp (s : State) (v : ReportQueue) : (s.setUer v).rmp = s.rmp := rfl
@[simp] theorem State.setUer_mig (s : State) (v : ReportQueue) : (s.setUer v).mig = s.mig := rfl
@[simp] theorem State.setUer_frt (s : State) (v : ReportQueue) : (s.setUer v).frt = s.frt := rfl
@[simp] theorem State.setUer_ptl (s : State) (v : ReportQueue) : (s.setUer v).ptl = s.ptl := rfl
@[simp] theorem State.setUer_rps (s : State) (v : ReportQueue) : (s.setUer v).rps = s.rps := rfl
@[simp] theorem State.setUer_mnt (s : State) (v : ReportQueue) : (s.setUer v).mnt = s.mnt := rfl
@[simp] theorem State.setUer_evt (s : State) (v : ReportQueue) : (s.setUer v).evt = s.evt := rfl
@[simp] theorem State.setUer_uer (s : State) (v : ReportQueue) : (s.setUer v).uer = v := rfl
@[simp] theorem State.setUer_array (s : State) (v : ReportQueue) : (s.setUer v).array = s.array := rfl
@[simp] theorem State.setUer_readData (s : State) (v : ReportQueue) : (s.setUer v).readData = s.readData := rfl
@[simp] theorem State.setUer_lineReads (s : State) (v : ReportQueue) : (s.setUer v).lineReads = s.lineReads := rfl
@[simp] theorem State.setUer_pending (s : State) (v : ReportQueue) : (s.setUer v).pending = s.pending := rfl

/-! #### setArray -/

@[simp] theorem State.setArray_powered (s : State) (v : Memory) : (s.setArray v).powered = s.powered := rfl
@[simp] theorem State.setArray_rstAsserted (s : State) (v : Memory) : (s.setArray v).rstAsserted = s.rstAsserted := rfl
@[simp] theorem State.setArray_hpt (s : State) (v : Memory) : (s.setArray v).hpt = s.hpt := rfl
@[simp] theorem State.setArray_req (s : State) (v : Memory) : (s.setArray v).req = s.req := rfl
@[simp] theorem State.setArray_buf (s : State) (v : Memory) : (s.setArray v).buf = s.buf := rfl
@[simp] theorem State.setArray_cpl (s : State) (v : Memory) : (s.setArray v).cpl = s.cpl := rfl
@[simp] theorem State.setArray_banks (s : State) (v : Memory) : (s.setArray v).banks = s.banks := rfl
@[simp] theorem State.setArray_refreshTimer (s : State) (v : Memory) : (s.setArray v).refreshTimer = s.refreshTimer := rfl
@[simp] theorem State.setArray_rmp (s : State) (v : Memory) : (s.setArray v).rmp = s.rmp := rfl
@[simp] theorem State.setArray_mig (s : State) (v : Memory) : (s.setArray v).mig = s.mig := rfl
@[simp] theorem State.setArray_frt (s : State) (v : Memory) : (s.setArray v).frt = s.frt := rfl
@[simp] theorem State.setArray_ptl (s : State) (v : Memory) : (s.setArray v).ptl = s.ptl := rfl
@[simp] theorem State.setArray_rps (s : State) (v : Memory) : (s.setArray v).rps = s.rps := rfl
@[simp] theorem State.setArray_mnt (s : State) (v : Memory) : (s.setArray v).mnt = s.mnt := rfl
@[simp] theorem State.setArray_evt (s : State) (v : Memory) : (s.setArray v).evt = s.evt := rfl
@[simp] theorem State.setArray_uer (s : State) (v : Memory) : (s.setArray v).uer = s.uer := rfl
@[simp] theorem State.setArray_array (s : State) (v : Memory) : (s.setArray v).array = v := rfl
@[simp] theorem State.setArray_readData (s : State) (v : Memory) : (s.setArray v).readData = s.readData := rfl
@[simp] theorem State.setArray_lineReads (s : State) (v : Memory) : (s.setArray v).lineReads = s.lineReads := rfl
@[simp] theorem State.setArray_pending (s : State) (v : Memory) : (s.setArray v).pending = s.pending := rfl

/-! #### setReadData -/

@[simp] theorem State.setReadData_powered (s : State) (v : Word) : (s.setReadData v).powered = s.powered := rfl
@[simp] theorem State.setReadData_rstAsserted (s : State) (v : Word) : (s.setReadData v).rstAsserted = s.rstAsserted := rfl
@[simp] theorem State.setReadData_hpt (s : State) (v : Word) : (s.setReadData v).hpt = s.hpt := rfl
@[simp] theorem State.setReadData_req (s : State) (v : Word) : (s.setReadData v).req = s.req := rfl
@[simp] theorem State.setReadData_buf (s : State) (v : Word) : (s.setReadData v).buf = s.buf := rfl
@[simp] theorem State.setReadData_cpl (s : State) (v : Word) : (s.setReadData v).cpl = s.cpl := rfl
@[simp] theorem State.setReadData_banks (s : State) (v : Word) : (s.setReadData v).banks = s.banks := rfl
@[simp] theorem State.setReadData_refreshTimer (s : State) (v : Word) : (s.setReadData v).refreshTimer = s.refreshTimer := rfl
@[simp] theorem State.setReadData_rmp (s : State) (v : Word) : (s.setReadData v).rmp = s.rmp := rfl
@[simp] theorem State.setReadData_mig (s : State) (v : Word) : (s.setReadData v).mig = s.mig := rfl
@[simp] theorem State.setReadData_frt (s : State) (v : Word) : (s.setReadData v).frt = s.frt := rfl
@[simp] theorem State.setReadData_ptl (s : State) (v : Word) : (s.setReadData v).ptl = s.ptl := rfl
@[simp] theorem State.setReadData_rps (s : State) (v : Word) : (s.setReadData v).rps = s.rps := rfl
@[simp] theorem State.setReadData_mnt (s : State) (v : Word) : (s.setReadData v).mnt = s.mnt := rfl
@[simp] theorem State.setReadData_evt (s : State) (v : Word) : (s.setReadData v).evt = s.evt := rfl
@[simp] theorem State.setReadData_uer (s : State) (v : Word) : (s.setReadData v).uer = s.uer := rfl
@[simp] theorem State.setReadData_array (s : State) (v : Word) : (s.setReadData v).array = s.array := rfl
@[simp] theorem State.setReadData_readData (s : State) (v : Word) : (s.setReadData v).readData = v := rfl
@[simp] theorem State.setReadData_lineReads (s : State) (v : Word) : (s.setReadData v).lineReads = s.lineReads := rfl
@[simp] theorem State.setReadData_pending (s : State) (v : Word) : (s.setReadData v).pending = s.pending := rfl

/-! #### setLineReads -/

@[simp] theorem State.setLineReads_powered (s : State) (v : Nat) : (s.setLineReads v).powered = s.powered := rfl
@[simp] theorem State.setLineReads_rstAsserted (s : State) (v : Nat) : (s.setLineReads v).rstAsserted = s.rstAsserted := rfl
@[simp] theorem State.setLineReads_hpt (s : State) (v : Nat) : (s.setLineReads v).hpt = s.hpt := rfl
@[simp] theorem State.setLineReads_req (s : State) (v : Nat) : (s.setLineReads v).req = s.req := rfl
@[simp] theorem State.setLineReads_buf (s : State) (v : Nat) : (s.setLineReads v).buf = s.buf := rfl
@[simp] theorem State.setLineReads_cpl (s : State) (v : Nat) : (s.setLineReads v).cpl = s.cpl := rfl
@[simp] theorem State.setLineReads_banks (s : State) (v : Nat) : (s.setLineReads v).banks = s.banks := rfl
@[simp] theorem State.setLineReads_refreshTimer (s : State) (v : Nat) : (s.setLineReads v).refreshTimer = s.refreshTimer := rfl
@[simp] theorem State.setLineReads_rmp (s : State) (v : Nat) : (s.setLineReads v).rmp = s.rmp := rfl
@[simp] theorem State.setLineReads_mig (s : State) (v : Nat) : (s.setLineReads v).mig = s.mig := rfl
@[simp] theorem State.setLineReads_frt (s : State) (v : Nat) : (s.setLineReads v).frt = s.frt := rfl
@[simp] theorem State.setLineReads_ptl (s : State) (v : Nat) : (s.setLineReads v).ptl = s.ptl := rfl
@[simp] theorem State.setLineReads_rps (s : State) (v : Nat) : (s.setLineReads v).rps = s.rps := rfl
@[simp] theorem State.setLineReads_mnt (s : State) (v : Nat) : (s.setLineReads v).mnt = s.mnt := rfl
@[simp] theorem State.setLineReads_evt (s : State) (v : Nat) : (s.setLineReads v).evt = s.evt := rfl
@[simp] theorem State.setLineReads_uer (s : State) (v : Nat) : (s.setLineReads v).uer = s.uer := rfl
@[simp] theorem State.setLineReads_array (s : State) (v : Nat) : (s.setLineReads v).array = s.array := rfl
@[simp] theorem State.setLineReads_readData (s : State) (v : Nat) : (s.setLineReads v).readData = s.readData := rfl
@[simp] theorem State.setLineReads_lineReads (s : State) (v : Nat) : (s.setLineReads v).lineReads = v := rfl
@[simp] theorem State.setLineReads_pending (s : State) (v : Nat) : (s.setLineReads v).pending = s.pending := rfl

end Sys2Proof.Machine
end

