-- ==== Sys2Proof/Laws/Frames.lean ====
section
/-! SUPPORT. One frame lemma for each shared operation: every block that it leaves as it stands. -/

namespace Sys2Proof.Machine

@[simp] theorem State.setBank_frame (s : State) (b : Bank) (k : BankSection) :
    (s.setBank b k).powered = s.powered ∧ (s.setBank b k).rstAsserted = s.rstAsserted ∧
    (s.setBank b k).hpt = s.hpt ∧ (s.setBank b k).req = s.req ∧ (s.setBank b k).buf = s.buf ∧
    (s.setBank b k).cpl = s.cpl ∧ (s.setBank b k).refreshTimer = s.refreshTimer ∧
    (s.setBank b k).rmp = s.rmp ∧ (s.setBank b k).mig = s.mig ∧ (s.setBank b k).frt = s.frt ∧
    (s.setBank b k).ptl = s.ptl ∧ (s.setBank b k).rps = s.rps ∧ (s.setBank b k).mnt = s.mnt ∧
    (s.setBank b k).evt = s.evt ∧ (s.setBank b k).uer = s.uer ∧ (s.setBank b k).array = s.array ∧
    (s.setBank b k).readData = s.readData ∧ (s.setBank b k).lineReads = s.lineReads ∧
    (s.setBank b k).pending = s.pending := by
  unfold State.setBank; simp

@[simp] theorem State.mapBanks_frame (s : State) (f : BankSection → BankSection) :
    (s.mapBanks f).powered = s.powered ∧ (s.mapBanks f).rstAsserted = s.rstAsserted ∧
    (s.mapBanks f).hpt = s.hpt ∧ (s.mapBanks f).req = s.req ∧ (s.mapBanks f).buf = s.buf ∧
    (s.mapBanks f).cpl = s.cpl ∧ (s.mapBanks f).refreshTimer = s.refreshTimer ∧
    (s.mapBanks f).rmp = s.rmp ∧ (s.mapBanks f).mig = s.mig ∧ (s.mapBanks f).frt = s.frt ∧
    (s.mapBanks f).ptl = s.ptl ∧ (s.mapBanks f).rps = s.rps ∧ (s.mapBanks f).mnt = s.mnt ∧
    (s.mapBanks f).evt = s.evt ∧ (s.mapBanks f).uer = s.uer ∧ (s.mapBanks f).array = s.array ∧
    (s.mapBanks f).readData = s.readData ∧ (s.mapBanks f).lineReads = s.lineReads ∧
    (s.mapBanks f).pending = s.pending := by
  unfold State.mapBanks; simp

@[simp] theorem State.setRemap_frame (s : State) (b : Bank) (m : BankRemap) :
    (s.setRemap b m).powered = s.powered ∧ (s.setRemap b m).rstAsserted = s.rstAsserted ∧
    (s.setRemap b m).hpt = s.hpt ∧ (s.setRemap b m).req = s.req ∧ (s.setRemap b m).buf = s.buf ∧
    (s.setRemap b m).cpl = s.cpl ∧ (s.setRemap b m).banks = s.banks ∧
    (s.setRemap b m).refreshTimer = s.refreshTimer ∧ (s.setRemap b m).mig = s.mig ∧
    (s.setRemap b m).frt = s.frt ∧ (s.setRemap b m).ptl = s.ptl ∧ (s.setRemap b m).rps = s.rps ∧
    (s.setRemap b m).mnt = s.mnt ∧ (s.setRemap b m).evt = s.evt ∧ (s.setRemap b m).uer = s.uer ∧
    (s.setRemap b m).array = s.array ∧ (s.setRemap b m).readData = s.readData ∧
    (s.setRemap b m).lineReads = s.lineReads ∧ (s.setRemap b m).pending = s.pending := by
  unfold State.setRemap; simp

@[simp] theorem State.writeCell_frame (s : State) (b : Bank) (r : PhysRow) (n : LineNo) (c : LineCell) :
    (s.writeCell b r n c).powered = s.powered ∧ (s.writeCell b r n c).rstAsserted = s.rstAsserted ∧
    (s.writeCell b r n c).hpt = s.hpt ∧ (s.writeCell b r n c).req = s.req ∧
    (s.writeCell b r n c).buf = s.buf ∧ (s.writeCell b r n c).cpl = s.cpl ∧
    (s.writeCell b r n c).banks = s.banks ∧ (s.writeCell b r n c).refreshTimer = s.refreshTimer ∧
    (s.writeCell b r n c).rmp = s.rmp ∧ (s.writeCell b r n c).mig = s.mig ∧
    (s.writeCell b r n c).frt = s.frt ∧ (s.writeCell b r n c).ptl = s.ptl ∧
    (s.writeCell b r n c).rps = s.rps ∧ (s.writeCell b r n c).mnt = s.mnt ∧
    (s.writeCell b r n c).evt = s.evt ∧ (s.writeCell b r n c).uer = s.uer ∧
    (s.writeCell b r n c).readData = s.readData ∧ (s.writeCell b r n c).lineReads = s.lineReads ∧
    (s.writeCell b r n c).pending = s.pending := by
  unfold State.writeCell; simp

@[simp] theorem State.writeData_frame (s : State) (b : Bank) (r : PhysRow) (n : LineNo) (w : LineWords) :
    (s.writeData b r n w).powered = s.powered ∧ (s.writeData b r n w).rstAsserted = s.rstAsserted ∧
    (s.writeData b r n w).hpt = s.hpt ∧ (s.writeData b r n w).req = s.req ∧
    (s.writeData b r n w).buf = s.buf ∧ (s.writeData b r n w).cpl = s.cpl ∧
    (s.writeData b r n w).banks = s.banks ∧ (s.writeData b r n w).refreshTimer = s.refreshTimer ∧
    (s.writeData b r n w).rmp = s.rmp ∧ (s.writeData b r n w).mig = s.mig ∧
    (s.writeData b r n w).frt = s.frt ∧ (s.writeData b r n w).ptl = s.ptl ∧
    (s.writeData b r n w).rps = s.rps ∧ (s.writeData b r n w).mnt = s.mnt ∧
    (s.writeData b r n w).evt = s.evt ∧ (s.writeData b r n w).uer = s.uer ∧
    (s.writeData b r n w).readData = s.readData ∧ (s.writeData b r n w).lineReads = s.lineReads ∧
    (s.writeData b r n w).pending = s.pending := by
  unfold State.writeData; simp

@[simp] theorem State.writePoison_frame (s : State) (b : Bank) (r : PhysRow) (n : LineNo) :
    (s.writePoison b r n).powered = s.powered ∧ (s.writePoison b r n).rstAsserted = s.rstAsserted ∧
    (s.writePoison b r n).hpt = s.hpt ∧ (s.writePoison b r n).req = s.req ∧
    (s.writePoison b r n).buf = s.buf ∧ (s.writePoison b r n).cpl = s.cpl ∧
    (s.writePoison b r n).banks = s.banks ∧ (s.writePoison b r n).refreshTimer = s.refreshTimer ∧
    (s.writePoison b r n).rmp = s.rmp ∧ (s.writePoison b r n).mig = s.mig ∧
    (s.writePoison b r n).frt = s.frt ∧ (s.writePoison b r n).ptl = s.ptl ∧
    (s.writePoison b r n).rps = s.rps ∧ (s.writePoison b r n).mnt = s.mnt ∧
    (s.writePoison b r n).evt = s.evt ∧ (s.writePoison b r n).uer = s.uer ∧
    (s.writePoison b r n).readData = s.readData ∧ (s.writePoison b r n).lineReads = s.lineReads ∧
    (s.writePoison b r n).pending = s.pending := by
  unfold State.writePoison; simp

@[simp] theorem State.writeDataRows_frame (s : State) (b : Bank) (rows : Rows) (n : LineNo) (w : LineWords) :
    (s.writeDataRows b rows n w).powered = s.powered ∧
    (s.writeDataRows b rows n w).rstAsserted = s.rstAsserted ∧ (s.writeDataRows b rows n w).hpt = s.hpt ∧
    (s.writeDataRows b rows n w).req = s.req ∧ (s.writeDataRows b rows n w).buf = s.buf ∧
    (s.writeDataRows b rows n w).cpl = s.cpl ∧ (s.writeDataRows b rows n w).banks = s.banks ∧
    (s.writeDataRows b rows n w).refreshTimer = s.refreshTimer ∧ (s.writeDataRows b rows n w).rmp = s.rmp ∧
    (s.writeDataRows b rows n w).mig = s.mig ∧ (s.writeDataRows b rows n w).frt = s.frt ∧
    (s.writeDataRows b rows n w).ptl = s.ptl ∧ (s.writeDataRows b rows n w).rps = s.rps ∧
    (s.writeDataRows b rows n w).mnt = s.mnt ∧ (s.writeDataRows b rows n w).evt = s.evt ∧
    (s.writeDataRows b rows n w).uer = s.uer ∧ (s.writeDataRows b rows n w).readData = s.readData ∧
    (s.writeDataRows b rows n w).lineReads = s.lineReads ∧ (s.writeDataRows b rows n w).pending = s.pending := by
  unfold State.writeDataRows; split <;> simp

@[simp] theorem State.poisonRows_frame (s : State) (b : Bank) (rows : Rows) (n : LineNo) :
    (s.poisonRows b rows n).powered = s.powered ∧ (s.poisonRows b rows n).rstAsserted = s.rstAsserted ∧
    (s.poisonRows b rows n).hpt = s.hpt ∧ (s.poisonRows b rows n).req = s.req ∧
    (s.poisonRows b rows n).buf = s.buf ∧ (s.poisonRows b rows n).cpl = s.cpl ∧
    (s.poisonRows b rows n).banks = s.banks ∧ (s.poisonRows b rows n).refreshTimer = s.refreshTimer ∧
    (s.poisonRows b rows n).rmp = s.rmp ∧ (s.poisonRows b rows n).mig = s.mig ∧
    (s.poisonRows b rows n).frt = s.frt ∧ (s.poisonRows b rows n).ptl = s.ptl ∧
    (s.poisonRows b rows n).rps = s.rps ∧ (s.poisonRows b rows n).mnt = s.mnt ∧
    (s.poisonRows b rows n).evt = s.evt ∧ (s.poisonRows b rows n).uer = s.uer ∧
    (s.poisonRows b rows n).readData = s.readData ∧ (s.poisonRows b rows n).lineReads = s.lineReads ∧
    (s.poisonRows b rows n).pending = s.pending := by
  unfold State.poisonRows; split <;> simp

@[simp] theorem State.strike_frame (s : State) (b : Bank) (r : PhysRow) (n : LineNo) (bits : List BitPos) :
    (s.strike b r n bits).powered = s.powered ∧ (s.strike b r n bits).rstAsserted = s.rstAsserted ∧
    (s.strike b r n bits).hpt = s.hpt ∧ (s.strike b r n bits).req = s.req ∧
    (s.strike b r n bits).buf = s.buf ∧ (s.strike b r n bits).cpl = s.cpl ∧
    (s.strike b r n bits).banks = s.banks ∧ (s.strike b r n bits).refreshTimer = s.refreshTimer ∧
    (s.strike b r n bits).rmp = s.rmp ∧ (s.strike b r n bits).mig = s.mig ∧
    (s.strike b r n bits).frt = s.frt ∧ (s.strike b r n bits).ptl = s.ptl ∧
    (s.strike b r n bits).rps = s.rps ∧ (s.strike b r n bits).mnt = s.mnt ∧
    (s.strike b r n bits).evt = s.evt ∧ (s.strike b r n bits).uer = s.uer ∧
    (s.strike b r n bits).readData = s.readData ∧ (s.strike b r n bits).lineReads = s.lineReads ∧
    (s.strike b r n bits).pending = s.pending := by
  unfold State.strike; simp

@[simp] theorem State.countRead_frame (s : State) :
    (s.countRead).powered = s.powered ∧ (s.countRead).rstAsserted = s.rstAsserted ∧
    (s.countRead).hpt = s.hpt ∧ (s.countRead).req = s.req ∧ (s.countRead).buf = s.buf ∧
    (s.countRead).cpl = s.cpl ∧ (s.countRead).banks = s.banks ∧
    (s.countRead).refreshTimer = s.refreshTimer ∧ (s.countRead).rmp = s.rmp ∧ (s.countRead).mig = s.mig ∧
    (s.countRead).frt = s.frt ∧ (s.countRead).ptl = s.ptl ∧ (s.countRead).rps = s.rps ∧
    (s.countRead).mnt = s.mnt ∧ (s.countRead).evt = s.evt ∧ (s.countRead).uer = s.uer ∧
    (s.countRead).array = s.array ∧ (s.countRead).readData = s.readData ∧ (s.countRead).pending = s.pending := by
  unfold State.countRead; simp

@[simp] theorem State.latch_frame (s : State) (e : Event) :
    (s.latch e).powered = s.powered ∧ (s.latch e).rstAsserted = s.rstAsserted ∧ (s.latch e).hpt = s.hpt ∧
    (s.latch e).req = s.req ∧ (s.latch e).buf = s.buf ∧ (s.latch e).cpl = s.cpl ∧
    (s.latch e).banks = s.banks ∧ (s.latch e).refreshTimer = s.refreshTimer ∧ (s.latch e).rmp = s.rmp ∧
    (s.latch e).mig = s.mig ∧ (s.latch e).frt = s.frt ∧ (s.latch e).ptl = s.ptl ∧ (s.latch e).rps = s.rps ∧
    (s.latch e).mnt = s.mnt ∧ (s.latch e).uer = s.uer ∧ (s.latch e).array = s.array ∧
    (s.latch e).readData = s.readData ∧ (s.latch e).lineReads = s.lineReads ∧
    (s.latch e).pending = s.pending := by
  unfold State.latch; simp

@[simp] theorem acknowledge_frame (w : Word) (s : State) :
    (acknowledge w s).powered = s.powered ∧ (acknowledge w s).rstAsserted = s.rstAsserted ∧
    (acknowledge w s).hpt = s.hpt ∧ (acknowledge w s).req = s.req ∧ (acknowledge w s).buf = s.buf ∧
    (acknowledge w s).cpl = s.cpl ∧ (acknowledge w s).banks = s.banks ∧
    (acknowledge w s).refreshTimer = s.refreshTimer ∧ (acknowledge w s).rmp = s.rmp ∧
    (acknowledge w s).mig = s.mig ∧ (acknowledge w s).frt = s.frt ∧ (acknowledge w s).ptl = s.ptl ∧
    (acknowledge w s).rps = s.rps ∧ (acknowledge w s).mnt = s.mnt ∧ (acknowledge w s).uer = s.uer ∧
    (acknowledge w s).array = s.array ∧ (acknowledge w s).readData = s.readData ∧
    (acknowledge w s).lineReads = s.lineReads ∧ (acknowledge w s).pending = s.pending := by
  unfold acknowledge; simp

@[simp] theorem storeMask_frame (w : Word) (s : State) :
    (storeMask w s).powered = s.powered ∧ (storeMask w s).rstAsserted = s.rstAsserted ∧
    (storeMask w s).hpt = s.hpt ∧ (storeMask w s).req = s.req ∧ (storeMask w s).buf = s.buf ∧
    (storeMask w s).cpl = s.cpl ∧ (storeMask w s).banks = s.banks ∧
    (storeMask w s).refreshTimer = s.refreshTimer ∧ (storeMask w s).rmp = s.rmp ∧
    (storeMask w s).mig = s.mig ∧ (storeMask w s).frt = s.frt ∧ (storeMask w s).ptl = s.ptl ∧
    (storeMask w s).rps = s.rps ∧ (storeMask w s).mnt = s.mnt ∧ (storeMask w s).uer = s.uer ∧
    (storeMask w s).array = s.array ∧ (storeMask w s).readData = s.readData ∧
    (storeMask w s).lineReads = s.lineReads ∧ (storeMask w s).pending = s.pending := by
  unfold storeMask; simp

@[simp] theorem completeCommand_frame (r : MntResult) (s : State) :
    (completeCommand r s).powered = s.powered ∧ (completeCommand r s).rstAsserted = s.rstAsserted ∧
    (completeCommand r s).hpt = s.hpt ∧ (completeCommand r s).req = s.req ∧
    (completeCommand r s).buf = s.buf ∧ (completeCommand r s).cpl = s.cpl ∧
    (completeCommand r s).banks = s.banks ∧ (completeCommand r s).refreshTimer = s.refreshTimer ∧
    (completeCommand r s).rmp = s.rmp ∧ (completeCommand r s).mig = s.mig ∧
    (completeCommand r s).frt = s.frt ∧ (completeCommand r s).ptl = s.ptl ∧
    (completeCommand r s).rps = s.rps ∧ (completeCommand r s).uer = s.uer ∧
    (completeCommand r s).array = s.array ∧ (completeCommand r s).readData = s.readData ∧
    (completeCommand r s).lineReads = s.lineReads ∧ (completeCommand r s).pending = s.pending := by
  unfold completeCommand; simp

@[simp] theorem completeBurn_frame (r : MntResult) (i : Fin 48) (s : State) :
    (completeBurn r i s).powered = s.powered ∧ (completeBurn r i s).rstAsserted = s.rstAsserted ∧
    (completeBurn r i s).hpt = s.hpt ∧ (completeBurn r i s).req = s.req ∧
    (completeBurn r i s).buf = s.buf ∧ (completeBurn r i s).cpl = s.cpl ∧
    (completeBurn r i s).banks = s.banks ∧ (completeBurn r i s).refreshTimer = s.refreshTimer ∧
    (completeBurn r i s).rmp = s.rmp ∧ (completeBurn r i s).mig = s.mig ∧
    (completeBurn r i s).frt = s.frt ∧ (completeBurn r i s).ptl = s.ptl ∧
    (completeBurn r i s).rps = s.rps ∧ (completeBurn r i s).uer = s.uer ∧
    (completeBurn r i s).array = s.array ∧ (completeBurn r i s).readData = s.readData ∧
    (completeBurn r i s).lineReads = s.lineReads ∧ (completeBurn r i s).pending = s.pending := by
  unfold completeBurn; simp

@[simp] theorem beginCommand_frame (c : MntCommand) (s : State) :
    (beginCommand c s).powered = s.powered ∧ (beginCommand c s).rstAsserted = s.rstAsserted ∧
    (beginCommand c s).hpt = s.hpt ∧ (beginCommand c s).req = s.req ∧ (beginCommand c s).buf = s.buf ∧
    (beginCommand c s).cpl = s.cpl ∧ (beginCommand c s).banks = s.banks ∧
    (beginCommand c s).refreshTimer = s.refreshTimer ∧ (beginCommand c s).rmp = s.rmp ∧
    (beginCommand c s).mig = s.mig ∧ (beginCommand c s).frt = s.frt ∧ (beginCommand c s).ptl = s.ptl ∧
    (beginCommand c s).rps = s.rps ∧ (beginCommand c s).evt = s.evt ∧ (beginCommand c s).uer = s.uer ∧
    (beginCommand c s).array = s.array ∧ (beginCommand c s).readData = s.readData ∧
    (beginCommand c s).lineReads = s.lineReads ∧ (beginCommand c s).pending = s.pending := by
  unfold beginCommand; simp

@[simp] theorem loadSlot_frame (s : State) (v : StoreSlot) :
    (loadSlot s v).powered = s.powered ∧ (loadSlot s v).rstAsserted = s.rstAsserted ∧
    (loadSlot s v).hpt = s.hpt ∧ (loadSlot s v).req = s.req ∧ (loadSlot s v).buf = s.buf ∧
    (loadSlot s v).cpl = s.cpl ∧ (loadSlot s v).banks = s.banks ∧
    (loadSlot s v).refreshTimer = s.refreshTimer ∧ (loadSlot s v).mig = s.mig ∧
    (loadSlot s v).frt = s.frt ∧ (loadSlot s v).ptl = s.ptl ∧ (loadSlot s v).rps = s.rps ∧
    (loadSlot s v).mnt = s.mnt ∧ (loadSlot s v).evt = s.evt ∧ (loadSlot s v).uer = s.uer ∧
    (loadSlot s v).array = s.array ∧ (loadSlot s v).readData = s.readData ∧
    (loadSlot s v).lineReads = s.lineReads ∧ (loadSlot s v).pending = s.pending := by
  unfold loadSlot; split <;> simp

@[simp] theorem loadStore_frame (s : State) :
    (loadStore s).powered = s.powered ∧ (loadStore s).rstAsserted = s.rstAsserted ∧
    (loadStore s).hpt = s.hpt ∧ (loadStore s).req = s.req ∧ (loadStore s).buf = s.buf ∧
    (loadStore s).cpl = s.cpl ∧ (loadStore s).banks = s.banks ∧
    (loadStore s).refreshTimer = s.refreshTimer ∧ (loadStore s).mig = s.mig ∧ (loadStore s).frt = s.frt ∧
    (loadStore s).ptl = s.ptl ∧ (loadStore s).rps = s.rps ∧ (loadStore s).mnt = s.mnt ∧
    (loadStore s).evt = s.evt ∧ (loadStore s).uer = s.uer ∧ (loadStore s).array = s.array ∧
    (loadStore s).readData = s.readData ∧ (loadStore s).lineReads = s.lineReads ∧
    (loadStore s).pending = s.pending := by
  have h : ∀ (l : List StoreSlot) (t : State), (l.foldl loadSlot t).powered = t.powered ∧ (l.foldl loadSlot t).rstAsserted = t.rstAsserted ∧ (l.foldl loadSlot t).hpt = t.hpt ∧ (l.foldl loadSlot t).req = t.req ∧ (l.foldl loadSlot t).buf = t.buf ∧ (l.foldl loadSlot t).cpl = t.cpl ∧ (l.foldl loadSlot t).banks = t.banks ∧ (l.foldl loadSlot t).refreshTimer = t.refreshTimer ∧ (l.foldl loadSlot t).mig = t.mig ∧ (l.foldl loadSlot t).frt = t.frt ∧ (l.foldl loadSlot t).ptl = t.ptl ∧ (l.foldl loadSlot t).rps = t.rps ∧ (l.foldl loadSlot t).mnt = t.mnt ∧ (l.foldl loadSlot t).evt = t.evt ∧ (l.foldl loadSlot t).uer = t.uer ∧ (l.foldl loadSlot t).array = t.array ∧ (l.foldl loadSlot t).readData = t.readData ∧ (l.foldl loadSlot t).lineReads = t.lineReads ∧ (l.foldl loadSlot t).pending = t.pending := by
    intro l
    induction l with
    | nil => intro t; simp
    | cons v rest ih => intro t; rw [List.foldl_cons]; have := ih (loadSlot t v); simp_all
  exact h _ s

@[simp] theorem clearRemap_frame (s : State) :
    (clearRemap s).powered = s.powered ∧ (clearRemap s).rstAsserted = s.rstAsserted ∧
    (clearRemap s).hpt = s.hpt ∧ (clearRemap s).req = s.req ∧ (clearRemap s).buf = s.buf ∧
    (clearRemap s).cpl = s.cpl ∧ (clearRemap s).banks = s.banks ∧
    (clearRemap s).refreshTimer = s.refreshTimer ∧ (clearRemap s).mig = s.mig ∧
    (clearRemap s).frt = s.frt ∧ (clearRemap s).ptl = s.ptl ∧ (clearRemap s).rps = s.rps ∧
    (clearRemap s).mnt = s.mnt ∧ (clearRemap s).evt = s.evt ∧ (clearRemap s).uer = s.uer ∧
    (clearRemap s).array = s.array ∧ (clearRemap s).readData = s.readData ∧
    (clearRemap s).lineReads = s.lineReads ∧ (clearRemap s).pending = s.pending := by
  unfold clearRemap; simp

@[simp] theorem resetRemap_frame (s : State) :
    (resetRemap s).powered = s.powered ∧ (resetRemap s).rstAsserted = s.rstAsserted ∧
    (resetRemap s).hpt = s.hpt ∧ (resetRemap s).req = s.req ∧ (resetRemap s).buf = s.buf ∧
    (resetRemap s).cpl = s.cpl ∧ (resetRemap s).banks = s.banks ∧
    (resetRemap s).refreshTimer = s.refreshTimer ∧ (resetRemap s).mig = s.mig ∧
    (resetRemap s).frt = s.frt ∧ (resetRemap s).ptl = s.ptl ∧ (resetRemap s).rps = s.rps ∧
    (resetRemap s).mnt = s.mnt ∧ (resetRemap s).evt = s.evt ∧ (resetRemap s).uer = s.uer ∧
    (resetRemap s).array = s.array ∧ (resetRemap s).readData = s.readData ∧
    (resetRemap s).lineReads = s.lineReads ∧ (resetRemap s).pending = s.pending := by
  unfold resetRemap; simp

@[simp] theorem receiveNotice_frame (n : Notice) (s : State) :
    (receiveNotice n s).powered = s.powered ∧ (receiveNotice n s).rstAsserted = s.rstAsserted ∧
    (receiveNotice n s).hpt = s.hpt ∧ (receiveNotice n s).req = s.req ∧ (receiveNotice n s).buf = s.buf ∧
    (receiveNotice n s).cpl = s.cpl ∧ (receiveNotice n s).banks = s.banks ∧
    (receiveNotice n s).refreshTimer = s.refreshTimer ∧ (receiveNotice n s).rmp = s.rmp ∧
    (receiveNotice n s).mig = s.mig ∧ (receiveNotice n s).ptl = s.ptl ∧ (receiveNotice n s).rps = s.rps ∧
    (receiveNotice n s).mnt = s.mnt ∧ (receiveNotice n s).uer = s.uer ∧
    (receiveNotice n s).array = s.array ∧ (receiveNotice n s).readData = s.readData ∧
    (receiveNotice n s).lineReads = s.lineReads ∧ (receiveNotice n s).pending = s.pending := by
  unfold receiveNotice; (repeat' split) <;> simp

@[simp] theorem receiveReport_frame (r : Report) (s : State) :
    (receiveReport r s).powered = s.powered ∧ (receiveReport r s).rstAsserted = s.rstAsserted ∧
    (receiveReport r s).hpt = s.hpt ∧ (receiveReport r s).req = s.req ∧ (receiveReport r s).buf = s.buf ∧
    (receiveReport r s).cpl = s.cpl ∧ (receiveReport r s).banks = s.banks ∧
    (receiveReport r s).refreshTimer = s.refreshTimer ∧ (receiveReport r s).rmp = s.rmp ∧
    (receiveReport r s).mig = s.mig ∧ (receiveReport r s).frt = s.frt ∧ (receiveReport r s).ptl = s.ptl ∧
    (receiveReport r s).rps = s.rps ∧ (receiveReport r s).mnt = s.mnt ∧
    (receiveReport r s).array = s.array ∧ (receiveReport r s).readData = s.readData ∧
    (receiveReport r s).lineReads = s.lineReads ∧ (receiveReport r s).pending = s.pending := by
  unfold receiveReport; split <;> simp

@[simp] theorem sendNotice_frame (n : Notice) (s : State) :
    (sendNotice n s).powered = s.powered ∧ (sendNotice n s).rstAsserted = s.rstAsserted ∧
    (sendNotice n s).hpt = s.hpt ∧ (sendNotice n s).req = s.req ∧ (sendNotice n s).buf = s.buf ∧
    (sendNotice n s).cpl = s.cpl ∧ (sendNotice n s).banks = s.banks ∧
    (sendNotice n s).refreshTimer = s.refreshTimer ∧ (sendNotice n s).rmp = s.rmp ∧
    (sendNotice n s).mig = s.mig ∧ (sendNotice n s).ptl = s.ptl ∧ (sendNotice n s).rps = s.rps ∧
    (sendNotice n s).mnt = s.mnt ∧ (sendNotice n s).array = s.array ∧
    (sendNotice n s).readData = s.readData ∧ (sendNotice n s).lineReads = s.lineReads ∧
    (sendNotice n s).pending = s.pending := by
  unfold sendNotice; split <;> simp

@[simp] theorem sendNotice?_frame (n : Option Notice) (s : State) :
    (sendNotice? n s).powered = s.powered ∧ (sendNotice? n s).rstAsserted = s.rstAsserted ∧
    (sendNotice? n s).hpt = s.hpt ∧ (sendNotice? n s).req = s.req ∧ (sendNotice? n s).buf = s.buf ∧
    (sendNotice? n s).cpl = s.cpl ∧ (sendNotice? n s).banks = s.banks ∧
    (sendNotice? n s).refreshTimer = s.refreshTimer ∧ (sendNotice? n s).rmp = s.rmp ∧
    (sendNotice? n s).mig = s.mig ∧ (sendNotice? n s).ptl = s.ptl ∧ (sendNotice? n s).rps = s.rps ∧
    (sendNotice? n s).mnt = s.mnt ∧ (sendNotice? n s).array = s.array ∧
    (sendNotice? n s).readData = s.readData ∧ (sendNotice? n s).lineReads = s.lineReads ∧
    (sendNotice? n s).pending = s.pending := by
  unfold sendNotice?; split <;> simp

@[simp] theorem popReport_frame (s : State) :
    (popReport s).powered = s.powered ∧ (popReport s).rstAsserted = s.rstAsserted ∧
    (popReport s).hpt = s.hpt ∧ (popReport s).req = s.req ∧ (popReport s).buf = s.buf ∧
    (popReport s).cpl = s.cpl ∧ (popReport s).banks = s.banks ∧
    (popReport s).refreshTimer = s.refreshTimer ∧ (popReport s).rmp = s.rmp ∧ (popReport s).mig = s.mig ∧
    (popReport s).frt = s.frt ∧ (popReport s).ptl = s.ptl ∧ (popReport s).rps = s.rps ∧
    (popReport s).mnt = s.mnt ∧ (popReport s).evt = s.evt ∧ (popReport s).array = s.array ∧
    (popReport s).readData = s.readData ∧ (popReport s).lineReads = s.lineReads ∧
    (popReport s).pending = s.pending := by
  unfold popReport; split <;> simp

@[simp] theorem passEnd_frame (s : State) :
    (passEnd s).powered = s.powered ∧ (passEnd s).rstAsserted = s.rstAsserted ∧ (passEnd s).hpt = s.hpt ∧
    (passEnd s).req = s.req ∧ (passEnd s).buf = s.buf ∧ (passEnd s).cpl = s.cpl ∧
    (passEnd s).banks = s.banks ∧ (passEnd s).refreshTimer = s.refreshTimer ∧ (passEnd s).rmp = s.rmp ∧
    (passEnd s).mig = s.mig ∧ (passEnd s).rps = s.rps ∧ (passEnd s).mnt = s.mnt ∧ (passEnd s).uer = s.uer ∧
    (passEnd s).array = s.array ∧ (passEnd s).readData = s.readData ∧ (passEnd s).lineReads = s.lineReads ∧
    (passEnd s).pending = s.pending := by
  unfold passEnd; simp

@[simp] theorem advanceCursor_frame (p : Position) (s : State) :
    (advanceCursor p s).powered = s.powered ∧ (advanceCursor p s).rstAsserted = s.rstAsserted ∧
    (advanceCursor p s).hpt = s.hpt ∧ (advanceCursor p s).req = s.req ∧ (advanceCursor p s).buf = s.buf ∧
    (advanceCursor p s).cpl = s.cpl ∧ (advanceCursor p s).banks = s.banks ∧
    (advanceCursor p s).refreshTimer = s.refreshTimer ∧ (advanceCursor p s).rmp = s.rmp ∧
    (advanceCursor p s).mig = s.mig ∧ (advanceCursor p s).rps = s.rps ∧ (advanceCursor p s).mnt = s.mnt ∧
    (advanceCursor p s).uer = s.uer ∧ (advanceCursor p s).array = s.array ∧
    (advanceCursor p s).readData = s.readData ∧ (advanceCursor p s).lineReads = s.lineReads ∧
    (advanceCursor p s).pending = s.pending := by
  unfold advanceCursor; split <;> simp

@[simp] theorem forgetStep_frame (s : State) :
    (forgetStep s).powered = s.powered ∧ (forgetStep s).rstAsserted = s.rstAsserted ∧
    (forgetStep s).hpt = s.hpt ∧ (forgetStep s).req = s.req ∧ (forgetStep s).buf = s.buf ∧
    (forgetStep s).cpl = s.cpl ∧ (forgetStep s).banks = s.banks ∧
    (forgetStep s).refreshTimer = s.refreshTimer ∧ (forgetStep s).rmp = s.rmp ∧
    (forgetStep s).mig = s.mig ∧ (forgetStep s).frt = s.frt ∧ (forgetStep s).rps = s.rps ∧
    (forgetStep s).mnt = s.mnt ∧ (forgetStep s).evt = s.evt ∧ (forgetStep s).uer = s.uer ∧
    (forgetStep s).array = s.array ∧ (forgetStep s).readData = s.readData ∧
    (forgetStep s).lineReads = s.lineReads ∧ (forgetStep s).pending = s.pending := by
  unfold forgetStep; simp

@[simp] theorem stepEnds_frame (s : State) :
    (stepEnds s).powered = s.powered ∧ (stepEnds s).rstAsserted = s.rstAsserted ∧
    (stepEnds s).hpt = s.hpt ∧ (stepEnds s).req = s.req ∧ (stepEnds s).buf = s.buf ∧
    (stepEnds s).cpl = s.cpl ∧ (stepEnds s).banks = s.banks ∧ (stepEnds s).refreshTimer = s.refreshTimer ∧
    (stepEnds s).rmp = s.rmp ∧ (stepEnds s).mig = s.mig ∧ (stepEnds s).rps = s.rps ∧
    (stepEnds s).mnt = s.mnt ∧ (stepEnds s).uer = s.uer ∧ (stepEnds s).array = s.array ∧
    (stepEnds s).readData = s.readData ∧ (stepEnds s).lineReads = s.lineReads ∧
    (stepEnds s).pending = s.pending := by
  unfold stepEnds; (repeat' split) <;> simp

@[simp] theorem withdrawStepAt_frame (p : Position) (s : State) :
    (withdrawStepAt p s).powered = s.powered ∧ (withdrawStepAt p s).rstAsserted = s.rstAsserted ∧
    (withdrawStepAt p s).hpt = s.hpt ∧ (withdrawStepAt p s).req = s.req ∧
    (withdrawStepAt p s).buf = s.buf ∧ (withdrawStepAt p s).cpl = s.cpl ∧
    (withdrawStepAt p s).refreshTimer = s.refreshTimer ∧ (withdrawStepAt p s).rmp = s.rmp ∧
    (withdrawStepAt p s).mig = s.mig ∧ (withdrawStepAt p s).frt = s.frt ∧
    (withdrawStepAt p s).rps = s.rps ∧ (withdrawStepAt p s).mnt = s.mnt ∧
    (withdrawStepAt p s).evt = s.evt ∧ (withdrawStepAt p s).uer = s.uer ∧
    (withdrawStepAt p s).array = s.array ∧ (withdrawStepAt p s).readData = s.readData ∧
    (withdrawStepAt p s).lineReads = s.lineReads ∧ (withdrawStepAt p s).pending = s.pending := by
  unfold withdrawStepAt; simp

@[simp] theorem withdrawStep_frame (s : State) :
    (withdrawStep s).powered = s.powered ∧ (withdrawStep s).rstAsserted = s.rstAsserted ∧
    (withdrawStep s).hpt = s.hpt ∧ (withdrawStep s).req = s.req ∧ (withdrawStep s).buf = s.buf ∧
    (withdrawStep s).cpl = s.cpl ∧ (withdrawStep s).refreshTimer = s.refreshTimer ∧
    (withdrawStep s).rmp = s.rmp ∧ (withdrawStep s).mig = s.mig ∧ (withdrawStep s).frt = s.frt ∧
    (withdrawStep s).rps = s.rps ∧ (withdrawStep s).mnt = s.mnt ∧ (withdrawStep s).evt = s.evt ∧
    (withdrawStep s).uer = s.uer ∧ (withdrawStep s).array = s.array ∧
    (withdrawStep s).readData = s.readData ∧ (withdrawStep s).lineReads = s.lineReads ∧
    (withdrawStep s).pending = s.pending := by
  unfold withdrawStep; split <;> simp

@[simp] theorem withdrawStepOf_frame (b : Bank) (s : State) :
    (withdrawStepOf b s).powered = s.powered ∧ (withdrawStepOf b s).rstAsserted = s.rstAsserted ∧
    (withdrawStepOf b s).hpt = s.hpt ∧ (withdrawStepOf b s).req = s.req ∧
    (withdrawStepOf b s).buf = s.buf ∧ (withdrawStepOf b s).cpl = s.cpl ∧
    (withdrawStepOf b s).refreshTimer = s.refreshTimer ∧ (withdrawStepOf b s).rmp = s.rmp ∧
    (withdrawStepOf b s).mig = s.mig ∧ (withdrawStepOf b s).frt = s.frt ∧
    (withdrawStepOf b s).rps = s.rps ∧ (withdrawStepOf b s).mnt = s.mnt ∧
    (withdrawStepOf b s).evt = s.evt ∧ (withdrawStepOf b s).uer = s.uer ∧
    (withdrawStepOf b s).array = s.array ∧ (withdrawStepOf b s).readData = s.readData ∧
    (withdrawStepOf b s).lineReads = s.lineReads ∧ (withdrawStepOf b s).pending = s.pending := by
  unfold withdrawStepOf; (repeat' split) <;> simp

@[simp] theorem restartCursor_frame (s : State) :
    (restartCursor s).powered = s.powered ∧ (restartCursor s).rstAsserted = s.rstAsserted ∧
    (restartCursor s).hpt = s.hpt ∧ (restartCursor s).req = s.req ∧ (restartCursor s).buf = s.buf ∧
    (restartCursor s).cpl = s.cpl ∧ (restartCursor s).refreshTimer = s.refreshTimer ∧
    (restartCursor s).rmp = s.rmp ∧ (restartCursor s).mig = s.mig ∧ (restartCursor s).frt = s.frt ∧
    (restartCursor s).rps = s.rps ∧ (restartCursor s).mnt = s.mnt ∧ (restartCursor s).evt = s.evt ∧
    (restartCursor s).uer = s.uer ∧ (restartCursor s).array = s.array ∧
    (restartCursor s).readData = s.readData ∧ (restartCursor s).lineReads = s.lineReads ∧
    (restartCursor s).pending = s.pending := by
  unfold restartCursor; split <;> simp

@[simp] theorem setEngine_frame (v : EngineState) (s : State) :
    (setEngine v s).powered = s.powered ∧ (setEngine v s).rstAsserted = s.rstAsserted ∧
    (setEngine v s).hpt = s.hpt ∧ (setEngine v s).req = s.req ∧ (setEngine v s).buf = s.buf ∧
    (setEngine v s).cpl = s.cpl ∧ (setEngine v s).banks = s.banks ∧
    (setEngine v s).refreshTimer = s.refreshTimer ∧ (setEngine v s).rmp = s.rmp ∧
    (setEngine v s).frt = s.frt ∧ (setEngine v s).ptl = s.ptl ∧ (setEngine v s).rps = s.rps ∧
    (setEngine v s).mnt = s.mnt ∧ (setEngine v s).evt = s.evt ∧ (setEngine v s).uer = s.uer ∧
    (setEngine v s).array = s.array ∧ (setEngine v s).readData = s.readData ∧
    (setEngine v s).lineReads = s.lineReads ∧ (setEngine v s).pending = s.pending := by
  unfold setEngine; simp

@[simp] theorem noteExhausted_frame (b : Bank) (s : State) :
    (noteExhausted b s).powered = s.powered ∧ (noteExhausted b s).rstAsserted = s.rstAsserted ∧
    (noteExhausted b s).hpt = s.hpt ∧ (noteExhausted b s).req = s.req ∧ (noteExhausted b s).buf = s.buf ∧
    (noteExhausted b s).cpl = s.cpl ∧ (noteExhausted b s).banks = s.banks ∧
    (noteExhausted b s).refreshTimer = s.refreshTimer ∧ (noteExhausted b s).rmp = s.rmp ∧
    (noteExhausted b s).mig = s.mig ∧ (noteExhausted b s).frt = s.frt ∧ (noteExhausted b s).ptl = s.ptl ∧
    (noteExhausted b s).rps = s.rps ∧ (noteExhausted b s).mnt = s.mnt ∧ (noteExhausted b s).uer = s.uer ∧
    (noteExhausted b s).array = s.array ∧ (noteExhausted b s).readData = s.readData ∧
    (noteExhausted b s).lineReads = s.lineReads ∧ (noteExhausted b s).pending = s.pending := by
  unfold noteExhausted; split <;> simp

@[simp] theorem startOn_frame (b : Bank) (l : LogicalRow) (t : SpareIdx) (s : State) :
    (startOn b l t s).powered = s.powered ∧ (startOn b l t s).rstAsserted = s.rstAsserted ∧
    (startOn b l t s).hpt = s.hpt ∧ (startOn b l t s).req = s.req ∧ (startOn b l t s).buf = s.buf ∧
    (startOn b l t s).cpl = s.cpl ∧ (startOn b l t s).banks = s.banks ∧
    (startOn b l t s).refreshTimer = s.refreshTimer ∧ (startOn b l t s).ptl = s.ptl ∧
    (startOn b l t s).rps = s.rps ∧ (startOn b l t s).mnt = s.mnt ∧ (startOn b l t s).uer = s.uer ∧
    (startOn b l t s).array = s.array ∧ (startOn b l t s).readData = s.readData ∧
    (startOn b l t s).lineReads = s.lineReads ∧ (startOn b l t s).pending = s.pending := by
  unfold startOn; simp

@[simp] theorem startMigration_frame (b : Bank) (l : LogicalRow) (s : State) :
    (startMigration b l s).powered = s.powered ∧ (startMigration b l s).rstAsserted = s.rstAsserted ∧
    (startMigration b l s).hpt = s.hpt ∧ (startMigration b l s).req = s.req ∧
    (startMigration b l s).buf = s.buf ∧ (startMigration b l s).cpl = s.cpl ∧
    (startMigration b l s).banks = s.banks ∧ (startMigration b l s).refreshTimer = s.refreshTimer ∧
    (startMigration b l s).ptl = s.ptl ∧ (startMigration b l s).rps = s.rps ∧
    (startMigration b l s).mnt = s.mnt ∧ (startMigration b l s).uer = s.uer ∧
    (startMigration b l s).array = s.array ∧ (startMigration b l s).readData = s.readData ∧
    (startMigration b l s).lineReads = s.lineReads ∧ (startMigration b l s).pending = s.pending := by
  unfold startMigration; split <;> simp

@[simp] theorem autoSelect_frame (s : State) :
    (autoSelect s).powered = s.powered ∧ (autoSelect s).rstAsserted = s.rstAsserted ∧
    (autoSelect s).hpt = s.hpt ∧ (autoSelect s).req = s.req ∧ (autoSelect s).buf = s.buf ∧
    (autoSelect s).cpl = s.cpl ∧ (autoSelect s).banks = s.banks ∧
    (autoSelect s).refreshTimer = s.refreshTimer ∧ (autoSelect s).ptl = s.ptl ∧
    (autoSelect s).rps = s.rps ∧ (autoSelect s).mnt = s.mnt ∧ (autoSelect s).uer = s.uer ∧
    (autoSelect s).array = s.array ∧ (autoSelect s).readData = s.readData ∧
    (autoSelect s).lineReads = s.lineReads ∧ (autoSelect s).pending = s.pending := by
  unfold autoSelect; (repeat' split) <;> simp

@[simp] theorem withdrawCopy_frame (b : Bank) (s : State) :
    (withdrawCopy b s).powered = s.powered ∧ (withdrawCopy b s).rstAsserted = s.rstAsserted ∧
    (withdrawCopy b s).hpt = s.hpt ∧ (withdrawCopy b s).req = s.req ∧ (withdrawCopy b s).buf = s.buf ∧
    (withdrawCopy b s).cpl = s.cpl ∧ (withdrawCopy b s).refreshTimer = s.refreshTimer ∧
    (withdrawCopy b s).rmp = s.rmp ∧ (withdrawCopy b s).mig = s.mig ∧ (withdrawCopy b s).frt = s.frt ∧
    (withdrawCopy b s).ptl = s.ptl ∧ (withdrawCopy b s).rps = s.rps ∧ (withdrawCopy b s).mnt = s.mnt ∧
    (withdrawCopy b s).evt = s.evt ∧ (withdrawCopy b s).uer = s.uer ∧ (withdrawCopy b s).array = s.array ∧
    (withdrawCopy b s).readData = s.readData ∧ (withdrawCopy b s).lineReads = s.lineReads ∧
    (withdrawCopy b s).pending = s.pending := by
  unfold withdrawCopy; simp

@[simp] theorem park_frame (s : State) :
    (park s).powered = s.powered ∧ (park s).rstAsserted = s.rstAsserted ∧ (park s).hpt = s.hpt ∧
    (park s).req = s.req ∧ (park s).buf = s.buf ∧ (park s).cpl = s.cpl ∧
    (park s).refreshTimer = s.refreshTimer ∧ (park s).rmp = s.rmp ∧ (park s).frt = s.frt ∧
    (park s).ptl = s.ptl ∧ (park s).rps = s.rps ∧ (park s).mnt = s.mnt ∧ (park s).evt = s.evt ∧
    (park s).uer = s.uer ∧ (park s).array = s.array ∧ (park s).readData = s.readData ∧
    (park s).lineReads = s.lineReads ∧ (park s).pending = s.pending := by
  unfold park; split <;> simp

@[simp] theorem unpark_frame (s : State) :
    (unpark s).powered = s.powered ∧ (unpark s).rstAsserted = s.rstAsserted ∧ (unpark s).hpt = s.hpt ∧
    (unpark s).req = s.req ∧ (unpark s).buf = s.buf ∧ (unpark s).cpl = s.cpl ∧ (unpark s).banks = s.banks ∧
    (unpark s).refreshTimer = s.refreshTimer ∧ (unpark s).rmp = s.rmp ∧ (unpark s).frt = s.frt ∧
    (unpark s).ptl = s.ptl ∧ (unpark s).rps = s.rps ∧ (unpark s).mnt = s.mnt ∧ (unpark s).evt = s.evt ∧
    (unpark s).uer = s.uer ∧ (unpark s).array = s.array ∧ (unpark s).readData = s.readData ∧
    (unpark s).lineReads = s.lineReads ∧ (unpark s).pending = s.pending := by
  unfold unpark; split <;> simp

@[simp] theorem endMigration_frame (v : LastMigration) (s : State) :
    (endMigration v s).powered = s.powered ∧ (endMigration v s).rstAsserted = s.rstAsserted ∧
    (endMigration v s).hpt = s.hpt ∧ (endMigration v s).req = s.req ∧ (endMigration v s).buf = s.buf ∧
    (endMigration v s).cpl = s.cpl ∧ (endMigration v s).banks = s.banks ∧
    (endMigration v s).refreshTimer = s.refreshTimer ∧ (endMigration v s).rmp = s.rmp ∧
    (endMigration v s).frt = s.frt ∧ (endMigration v s).ptl = s.ptl ∧ (endMigration v s).rps = s.rps ∧
    (endMigration v s).mnt = s.mnt ∧ (endMigration v s).uer = s.uer ∧ (endMigration v s).array = s.array ∧
    (endMigration v s).readData = s.readData ∧ (endMigration v s).lineReads = s.lineReads ∧
    (endMigration v s).pending = s.pending := by
  unfold endMigration; simp

@[simp] theorem commitMigration_frame (b : Bank) (l : LogicalRow) (e : RemapEntry) (s : State) :
    (commitMigration b l e s).powered = s.powered ∧ (commitMigration b l e s).rstAsserted = s.rstAsserted ∧
    (commitMigration b l e s).hpt = s.hpt ∧ (commitMigration b l e s).req = s.req ∧
    (commitMigration b l e s).buf = s.buf ∧ (commitMigration b l e s).cpl = s.cpl ∧
    (commitMigration b l e s).banks = s.banks ∧ (commitMigration b l e s).refreshTimer = s.refreshTimer ∧
    (commitMigration b l e s).ptl = s.ptl ∧ (commitMigration b l e s).rps = s.rps ∧
    (commitMigration b l e s).mnt = s.mnt ∧ (commitMigration b l e s).uer = s.uer ∧
    (commitMigration b l e s).array = s.array ∧ (commitMigration b l e s).readData = s.readData ∧
    (commitMigration b l e s).lineReads = s.lineReads ∧ (commitMigration b l e s).pending = s.pending := by
  unfold commitMigration; simp

@[simp] theorem failMigration_frame (b : Bank) (l : LogicalRow) (e : RemapEntry) (s : State) :
    (failMigration b l e s).powered = s.powered ∧ (failMigration b l e s).rstAsserted = s.rstAsserted ∧
    (failMigration b l e s).hpt = s.hpt ∧ (failMigration b l e s).req = s.req ∧
    (failMigration b l e s).buf = s.buf ∧ (failMigration b l e s).cpl = s.cpl ∧
    (failMigration b l e s).banks = s.banks ∧ (failMigration b l e s).refreshTimer = s.refreshTimer ∧
    (failMigration b l e s).ptl = s.ptl ∧ (failMigration b l e s).rps = s.rps ∧
    (failMigration b l e s).mnt = s.mnt ∧ (failMigration b l e s).uer = s.uer ∧
    (failMigration b l e s).array = s.array ∧ (failMigration b l e s).readData = s.readData ∧
    (failMigration b l e s).lineReads = s.lineReads ∧ (failMigration b l e s).pending = s.pending := by
  unfold failMigration; simp

@[simp] theorem applyAbort_frame (b : Bank) (l : LogicalRow) (s : State) :
    (applyAbort b l s).powered = s.powered ∧ (applyAbort b l s).rstAsserted = s.rstAsserted ∧
    (applyAbort b l s).hpt = s.hpt ∧ (applyAbort b l s).req = s.req ∧ (applyAbort b l s).buf = s.buf ∧
    (applyAbort b l s).cpl = s.cpl ∧ (applyAbort b l s).banks = s.banks ∧
    (applyAbort b l s).refreshTimer = s.refreshTimer ∧ (applyAbort b l s).ptl = s.ptl ∧
    (applyAbort b l s).rps = s.rps ∧ (applyAbort b l s).mnt = s.mnt ∧ (applyAbort b l s).uer = s.uer ∧
    (applyAbort b l s).array = s.array ∧ (applyAbort b l s).readData = s.readData ∧
    (applyAbort b l s).lineReads = s.lineReads ∧ (applyAbort b l s).pending = s.pending := by
  unfold applyAbort; split <;> simp

@[simp] theorem afterCopy_frame (p : Bool) (b : Bank) (l : LogicalRow) (s : State) :
    (afterCopy p b l s).powered = s.powered ∧ (afterCopy p b l s).rstAsserted = s.rstAsserted ∧
    (afterCopy p b l s).hpt = s.hpt ∧ (afterCopy p b l s).req = s.req ∧ (afterCopy p b l s).buf = s.buf ∧
    (afterCopy p b l s).cpl = s.cpl ∧ (afterCopy p b l s).banks = s.banks ∧
    (afterCopy p b l s).refreshTimer = s.refreshTimer ∧ (afterCopy p b l s).rmp = s.rmp ∧
    (afterCopy p b l s).frt = s.frt ∧ (afterCopy p b l s).ptl = s.ptl ∧ (afterCopy p b l s).rps = s.rps ∧
    (afterCopy p b l s).mnt = s.mnt ∧ (afterCopy p b l s).evt = s.evt ∧ (afterCopy p b l s).uer = s.uer ∧
    (afterCopy p b l s).array = s.array ∧ (afterCopy p b l s).readData = s.readData ∧
    (afterCopy p b l s).lineReads = s.lineReads ∧ (afterCopy p b l s).pending = s.pending := by
  unfold afterCopy; simp

@[simp] theorem restartMigration_frame (p : Bool) (b : Bank) (l : LogicalRow) (e : RemapEntry) (t : SpareIdx) (s : State) :
    (restartMigration p b l e t s).powered = s.powered ∧
    (restartMigration p b l e t s).rstAsserted = s.rstAsserted ∧
    (restartMigration p b l e t s).hpt = s.hpt ∧ (restartMigration p b l e t s).req = s.req ∧
    (restartMigration p b l e t s).buf = s.buf ∧ (restartMigration p b l e t s).cpl = s.cpl ∧
    (restartMigration p b l e t s).banks = s.banks ∧
    (restartMigration p b l e t s).refreshTimer = s.refreshTimer ∧
    (restartMigration p b l e t s).frt = s.frt ∧ (restartMigration p b l e t s).ptl = s.ptl ∧
    (restartMigration p b l e t s).rps = s.rps ∧ (restartMigration p b l e t s).mnt = s.mnt ∧
    (restartMigration p b l e t s).uer = s.uer ∧ (restartMigration p b l e t s).array = s.array ∧
    (restartMigration p b l e t s).readData = s.readData ∧
    (restartMigration p b l e t s).lineReads = s.lineReads ∧
    (restartMigration p b l e t s).pending = s.pending := by
  unfold restartMigration; simp

@[simp] theorem copied_frame (p : Bool) (b : Bank) (l : LogicalRow) (e : RemapEntry) (n : LineNo) (s : State) :
    (copied p b l e n s).powered = s.powered ∧ (copied p b l e n s).rstAsserted = s.rstAsserted ∧
    (copied p b l e n s).hpt = s.hpt ∧ (copied p b l e n s).req = s.req ∧
    (copied p b l e n s).buf = s.buf ∧ (copied p b l e n s).cpl = s.cpl ∧
    (copied p b l e n s).banks = s.banks ∧ (copied p b l e n s).refreshTimer = s.refreshTimer ∧
    (copied p b l e n s).ptl = s.ptl ∧ (copied p b l e n s).rps = s.rps ∧
    (copied p b l e n s).mnt = s.mnt ∧ (copied p b l e n s).uer = s.uer ∧
    (copied p b l e n s).array = s.array ∧ (copied p b l e n s).readData = s.readData ∧
    (copied p b l e n s).lineReads = s.lineReads ∧ (copied p b l e n s).pending = s.pending := by
  unfold copied; split <;> simp

@[simp] theorem verifyFailed_frame (p : Bool) (b : Bank) (l : LogicalRow) (e : RemapEntry) (s : State) :
    (verifyFailed p b l e s).powered = s.powered ∧ (verifyFailed p b l e s).rstAsserted = s.rstAsserted ∧
    (verifyFailed p b l e s).hpt = s.hpt ∧ (verifyFailed p b l e s).req = s.req ∧
    (verifyFailed p b l e s).buf = s.buf ∧ (verifyFailed p b l e s).cpl = s.cpl ∧
    (verifyFailed p b l e s).banks = s.banks ∧ (verifyFailed p b l e s).refreshTimer = s.refreshTimer ∧
    (verifyFailed p b l e s).ptl = s.ptl ∧ (verifyFailed p b l e s).rps = s.rps ∧
    (verifyFailed p b l e s).mnt = s.mnt ∧ (verifyFailed p b l e s).uer = s.uer ∧
    (verifyFailed p b l e s).array = s.array ∧ (verifyFailed p b l e s).readData = s.readData ∧
    (verifyFailed p b l e s).lineReads = s.lineReads ∧ (verifyFailed p b l e s).pending = s.pending := by
  unfold verifyFailed; (repeat' split) <;> simp

@[simp] theorem copyEnds_frame (n : LineNo) (v : Bool) (s : State) :
    (copyEnds n v s).powered = s.powered ∧ (copyEnds n v s).rstAsserted = s.rstAsserted ∧
    (copyEnds n v s).hpt = s.hpt ∧ (copyEnds n v s).req = s.req ∧ (copyEnds n v s).buf = s.buf ∧
    (copyEnds n v s).cpl = s.cpl ∧ (copyEnds n v s).banks = s.banks ∧
    (copyEnds n v s).refreshTimer = s.refreshTimer ∧ (copyEnds n v s).ptl = s.ptl ∧
    (copyEnds n v s).rps = s.rps ∧ (copyEnds n v s).uer = s.uer ∧ (copyEnds n v s).array = s.array ∧
    (copyEnds n v s).readData = s.readData ∧ (copyEnds n v s).lineReads = s.lineReads ∧
    (copyEnds n v s).pending = s.pending := by
  unfold copyEnds; (repeat' split) <;> simp

@[simp] theorem finishClear_frame (b : Bank) (s : State) :
    (finishClear b s).powered = s.powered ∧ (finishClear b s).rstAsserted = s.rstAsserted ∧
    (finishClear b s).hpt = s.hpt ∧ (finishClear b s).req = s.req ∧ (finishClear b s).buf = s.buf ∧
    (finishClear b s).cpl = s.cpl ∧ (finishClear b s).refreshTimer = s.refreshTimer ∧
    (finishClear b s).rmp = s.rmp ∧ (finishClear b s).mig = s.mig ∧ (finishClear b s).frt = s.frt ∧
    (finishClear b s).ptl = s.ptl ∧ (finishClear b s).rps = s.rps ∧ (finishClear b s).uer = s.uer ∧
    (finishClear b s).array = s.array ∧ (finishClear b s).readData = s.readData ∧
    (finishClear b s).lineReads = s.lineReads ∧ (finishClear b s).pending = s.pending := by
  unfold finishClear; simp

@[simp] theorem clearLineEnds_frame (b : Bank) (p : RowLine) (s : State) :
    (clearLineEnds b p s).powered = s.powered ∧ (clearLineEnds b p s).rstAsserted = s.rstAsserted ∧
    (clearLineEnds b p s).hpt = s.hpt ∧ (clearLineEnds b p s).req = s.req ∧
    (clearLineEnds b p s).buf = s.buf ∧ (clearLineEnds b p s).cpl = s.cpl ∧
    (clearLineEnds b p s).refreshTimer = s.refreshTimer ∧ (clearLineEnds b p s).rmp = s.rmp ∧
    (clearLineEnds b p s).mig = s.mig ∧ (clearLineEnds b p s).frt = s.frt ∧
    (clearLineEnds b p s).ptl = s.ptl ∧ (clearLineEnds b p s).rps = s.rps ∧
    (clearLineEnds b p s).uer = s.uer ∧ (clearLineEnds b p s).array = s.array ∧
    (clearLineEnds b p s).readData = s.readData ∧ (clearLineEnds b p s).lineReads = s.lineReads ∧
    (clearLineEnds b p s).pending = s.pending := by
  unfold clearLineEnds; (repeat' split) <;> simp

@[simp] theorem grantHost_frame (b : Bank) (q : Request) (s : State) :
    (grantHost b q s).powered = s.powered ∧ (grantHost b q s).rstAsserted = s.rstAsserted ∧
    (grantHost b q s).hpt = s.hpt ∧ (grantHost b q s).req = s.req ∧ (grantHost b q s).buf = s.buf ∧
    (grantHost b q s).cpl = s.cpl ∧ (grantHost b q s).refreshTimer = s.refreshTimer ∧
    (grantHost b q s).rmp = s.rmp ∧ (grantHost b q s).mig = s.mig ∧ (grantHost b q s).frt = s.frt ∧
    (grantHost b q s).ptl = s.ptl ∧ (grantHost b q s).rps = s.rps ∧ (grantHost b q s).mnt = s.mnt ∧
    (grantHost b q s).evt = s.evt ∧ (grantHost b q s).uer = s.uer ∧ (grantHost b q s).array = s.array ∧
    (grantHost b q s).readData = s.readData ∧ (grantHost b q s).lineReads = s.lineReads ∧
    (grantHost b q s).pending = s.pending := by
  unfold grantHost; simp

@[simp] theorem runCopy_frame (s : State) :
    (runCopy s).powered = s.powered ∧ (runCopy s).rstAsserted = s.rstAsserted ∧ (runCopy s).hpt = s.hpt ∧
    (runCopy s).req = s.req ∧ (runCopy s).buf = s.buf ∧ (runCopy s).cpl = s.cpl ∧
    (runCopy s).banks = s.banks ∧ (runCopy s).refreshTimer = s.refreshTimer ∧ (runCopy s).rmp = s.rmp ∧
    (runCopy s).frt = s.frt ∧ (runCopy s).ptl = s.ptl ∧ (runCopy s).rps = s.rps ∧ (runCopy s).mnt = s.mnt ∧
    (runCopy s).evt = s.evt ∧ (runCopy s).uer = s.uer ∧ (runCopy s).array = s.array ∧
    (runCopy s).readData = s.readData ∧ (runCopy s).lineReads = s.lineReads ∧
    (runCopy s).pending = s.pending := by
  unfold runCopy; split <;> simp

@[simp] theorem grantCopy_frame (b : Bank) (s : State) :
    (grantCopy b s).powered = s.powered ∧ (grantCopy b s).rstAsserted = s.rstAsserted ∧
    (grantCopy b s).hpt = s.hpt ∧ (grantCopy b s).req = s.req ∧ (grantCopy b s).buf = s.buf ∧
    (grantCopy b s).cpl = s.cpl ∧ (grantCopy b s).refreshTimer = s.refreshTimer ∧
    (grantCopy b s).rmp = s.rmp ∧ (grantCopy b s).frt = s.frt ∧ (grantCopy b s).ptl = s.ptl ∧
    (grantCopy b s).rps = s.rps ∧ (grantCopy b s).mnt = s.mnt ∧ (grantCopy b s).evt = s.evt ∧
    (grantCopy b s).uer = s.uer ∧ (grantCopy b s).array = s.array ∧ (grantCopy b s).readData = s.readData ∧
    (grantCopy b s).lineReads = s.lineReads ∧ (grantCopy b s).pending = s.pending := by
  unfold grantCopy; split <;> simp

@[simp] theorem runStep_frame (s : State) :
    (runStep s).powered = s.powered ∧ (runStep s).rstAsserted = s.rstAsserted ∧ (runStep s).hpt = s.hpt ∧
    (runStep s).req = s.req ∧ (runStep s).buf = s.buf ∧ (runStep s).cpl = s.cpl ∧
    (runStep s).banks = s.banks ∧ (runStep s).refreshTimer = s.refreshTimer ∧ (runStep s).rmp = s.rmp ∧
    (runStep s).mig = s.mig ∧ (runStep s).frt = s.frt ∧ (runStep s).rps = s.rps ∧ (runStep s).mnt = s.mnt ∧
    (runStep s).evt = s.evt ∧ (runStep s).uer = s.uer ∧ (runStep s).array = s.array ∧
    (runStep s).readData = s.readData ∧ (runStep s).lineReads = s.lineReads ∧
    (runStep s).pending = s.pending := by
  unfold runStep; split <;> simp

@[simp] theorem grantStep_frame (b : Bank) (p : RowLine) (s : State) :
    (grantStep b p s).powered = s.powered ∧ (grantStep b p s).rstAsserted = s.rstAsserted ∧
    (grantStep b p s).hpt = s.hpt ∧ (grantStep b p s).req = s.req ∧ (grantStep b p s).buf = s.buf ∧
    (grantStep b p s).cpl = s.cpl ∧ (grantStep b p s).refreshTimer = s.refreshTimer ∧
    (grantStep b p s).rmp = s.rmp ∧ (grantStep b p s).mig = s.mig ∧ (grantStep b p s).frt = s.frt ∧
    (grantStep b p s).rps = s.rps ∧ (grantStep b p s).mnt = s.mnt ∧ (grantStep b p s).evt = s.evt ∧
    (grantStep b p s).uer = s.uer ∧ (grantStep b p s).array = s.array ∧
    (grantStep b p s).readData = s.readData ∧ (grantStep b p s).lineReads = s.lineReads ∧
    (grantStep b p s).pending = s.pending := by
  unfold grantStep; simp

@[simp] theorem grantClear_frame (b : Bank) (p : RowLine) (s : State) :
    (grantClear b p s).powered = s.powered ∧ (grantClear b p s).rstAsserted = s.rstAsserted ∧
    (grantClear b p s).hpt = s.hpt ∧ (grantClear b p s).req = s.req ∧ (grantClear b p s).buf = s.buf ∧
    (grantClear b p s).cpl = s.cpl ∧ (grantClear b p s).refreshTimer = s.refreshTimer ∧
    (grantClear b p s).rmp = s.rmp ∧ (grantClear b p s).mig = s.mig ∧ (grantClear b p s).frt = s.frt ∧
    (grantClear b p s).ptl = s.ptl ∧ (grantClear b p s).rps = s.rps ∧ (grantClear b p s).mnt = s.mnt ∧
    (grantClear b p s).evt = s.evt ∧ (grantClear b p s).uer = s.uer ∧ (grantClear b p s).array = s.array ∧
    (grantClear b p s).readData = s.readData ∧ (grantClear b p s).lineReads = s.lineReads ∧
    (grantClear b p s).pending = s.pending := by
  unfold grantClear; simp

@[simp] theorem grantRefresh_frame (b : Bank) (s : State) :
    (grantRefresh b s).powered = s.powered ∧ (grantRefresh b s).rstAsserted = s.rstAsserted ∧
    (grantRefresh b s).hpt = s.hpt ∧ (grantRefresh b s).req = s.req ∧ (grantRefresh b s).buf = s.buf ∧
    (grantRefresh b s).cpl = s.cpl ∧ (grantRefresh b s).refreshTimer = s.refreshTimer ∧
    (grantRefresh b s).rmp = s.rmp ∧ (grantRefresh b s).mig = s.mig ∧ (grantRefresh b s).frt = s.frt ∧
    (grantRefresh b s).ptl = s.ptl ∧ (grantRefresh b s).rps = s.rps ∧ (grantRefresh b s).mnt = s.mnt ∧
    (grantRefresh b s).evt = s.evt ∧ (grantRefresh b s).uer = s.uer ∧ (grantRefresh b s).array = s.array ∧
    (grantRefresh b s).readData = s.readData ∧ (grantRefresh b s).lineReads = s.lineReads ∧
    (grantRefresh b s).pending = s.pending := by
  unfold grantRefresh; simp

@[simp] theorem grant_frame (b : Bank) (c : Claim) (s : State) :
    (grant b c s).powered = s.powered ∧ (grant b c s).rstAsserted = s.rstAsserted ∧
    (grant b c s).hpt = s.hpt ∧ (grant b c s).req = s.req ∧ (grant b c s).buf = s.buf ∧
    (grant b c s).cpl = s.cpl ∧ (grant b c s).refreshTimer = s.refreshTimer ∧ (grant b c s).rmp = s.rmp ∧
    (grant b c s).frt = s.frt ∧ (grant b c s).rps = s.rps ∧ (grant b c s).mnt = s.mnt ∧
    (grant b c s).evt = s.evt ∧ (grant b c s).uer = s.uer ∧ (grant b c s).array = s.array ∧
    (grant b c s).readData = s.readData ∧ (grant b c s).lineReads = s.lineReads ∧
    (grant b c s).pending = s.pending := by
  unfold grant; (repeat' split) <;> simp

@[simp] theorem serve_frame (b : Bank) (s : State) :
    (serve b s).powered = s.powered ∧ (serve b s).rstAsserted = s.rstAsserted ∧ (serve b s).hpt = s.hpt ∧
    (serve b s).req = s.req ∧ (serve b s).buf = s.buf ∧ (serve b s).cpl = s.cpl ∧
    (serve b s).refreshTimer = s.refreshTimer ∧ (serve b s).rmp = s.rmp ∧ (serve b s).frt = s.frt ∧
    (serve b s).rps = s.rps ∧ (serve b s).mnt = s.mnt ∧ (serve b s).evt = s.evt ∧ (serve b s).uer = s.uer ∧
    (serve b s).array = s.array ∧ (serve b s).readData = s.readData ∧ (serve b s).lineReads = s.lineReads ∧
    (serve b s).pending = s.pending := by
  unfold serve; split <;> simp

@[simp] theorem discardStep_frame (b : Bank) (s : State) :
    (discardStep b s).powered = s.powered ∧ (discardStep b s).rstAsserted = s.rstAsserted ∧
    (discardStep b s).hpt = s.hpt ∧ (discardStep b s).req = s.req ∧ (discardStep b s).buf = s.buf ∧
    (discardStep b s).cpl = s.cpl ∧ (discardStep b s).refreshTimer = s.refreshTimer ∧
    (discardStep b s).rmp = s.rmp ∧ (discardStep b s).mig = s.mig ∧ (discardStep b s).rps = s.rps ∧
    (discardStep b s).mnt = s.mnt ∧ (discardStep b s).uer = s.uer ∧ (discardStep b s).array = s.array ∧
    (discardStep b s).readData = s.readData ∧ (discardStep b s).lineReads = s.lineReads ∧
    (discardStep b s).pending = s.pending := by
  unfold discardStep; simp

@[simp] theorem arbitrate_frame (b : Bank) (s : State) :
    (arbitrate b s).powered = s.powered ∧ (arbitrate b s).rstAsserted = s.rstAsserted ∧
    (arbitrate b s).hpt = s.hpt ∧ (arbitrate b s).req = s.req ∧ (arbitrate b s).buf = s.buf ∧
    (arbitrate b s).cpl = s.cpl ∧ (arbitrate b s).refreshTimer = s.refreshTimer ∧
    (arbitrate b s).rmp = s.rmp ∧ (arbitrate b s).rps = s.rps ∧ (arbitrate b s).mnt = s.mnt ∧
    (arbitrate b s).uer = s.uer ∧ (arbitrate b s).array = s.array ∧ (arbitrate b s).readData = s.readData ∧
    (arbitrate b s).lineReads = s.lineReads ∧ (arbitrate b s).pending = s.pending := by
  unfold arbitrate; (repeat' split) <;> simp

@[simp] theorem enterRetained_frame (s : State) :
    (enterRetained s).powered = s.powered ∧ (enterRetained s).rstAsserted = s.rstAsserted ∧
    (enterRetained s).req = s.req ∧ (enterRetained s).buf = s.buf ∧ (enterRetained s).cpl = s.cpl ∧
    (enterRetained s).banks = s.banks ∧ (enterRetained s).rmp = s.rmp ∧ (enterRetained s).mig = s.mig ∧
    (enterRetained s).frt = s.frt ∧ (enterRetained s).ptl = s.ptl ∧ (enterRetained s).rps = s.rps ∧
    (enterRetained s).uer = s.uer ∧ (enterRetained s).array = s.array ∧
    (enterRetained s).readData = s.readData ∧ (enterRetained s).lineReads = s.lineReads ∧
    (enterRetained s).pending = s.pending := by
  unfold enterRetained; simp

@[simp] theorem retainBank_frame (b : Bank) (s : State) :
    (retainBank b s).powered = s.powered ∧ (retainBank b s).rstAsserted = s.rstAsserted ∧
    (retainBank b s).req = s.req ∧ (retainBank b s).buf = s.buf ∧ (retainBank b s).cpl = s.cpl ∧
    (retainBank b s).rmp = s.rmp ∧ (retainBank b s).mig = s.mig ∧ (retainBank b s).frt = s.frt ∧
    (retainBank b s).ptl = s.ptl ∧ (retainBank b s).rps = s.rps ∧ (retainBank b s).uer = s.uer ∧
    (retainBank b s).array = s.array ∧ (retainBank b s).readData = s.readData ∧
    (retainBank b s).lineReads = s.lineReads ∧ (retainBank b s).pending = s.pending := by
  unfold retainBank; dsimp only; split <;> simp

@[simp] theorem settleBank_frame (b : Bank) (s : State) :
    (settleBank b s).powered = s.powered ∧ (settleBank b s).rstAsserted = s.rstAsserted ∧
    (settleBank b s).req = s.req ∧ (settleBank b s).buf = s.buf ∧ (settleBank b s).cpl = s.cpl ∧
    (settleBank b s).rmp = s.rmp ∧ (settleBank b s).rps = s.rps ∧ (settleBank b s).uer = s.uer ∧
    (settleBank b s).array = s.array ∧ (settleBank b s).readData = s.readData ∧
    (settleBank b s).lineReads = s.lineReads ∧ (settleBank b s).pending = s.pending := by
  unfold settleBank; split <;> simp

@[simp] theorem idleBank_frame (b : Bank) (s : State) :
    (idleBank b s).powered = s.powered ∧ (idleBank b s).rstAsserted = s.rstAsserted ∧
    (idleBank b s).hpt = s.hpt ∧ (idleBank b s).req = s.req ∧ (idleBank b s).buf = s.buf ∧
    (idleBank b s).cpl = s.cpl ∧ (idleBank b s).refreshTimer = s.refreshTimer ∧
    (idleBank b s).rmp = s.rmp ∧ (idleBank b s).mig = s.mig ∧ (idleBank b s).frt = s.frt ∧
    (idleBank b s).ptl = s.ptl ∧ (idleBank b s).rps = s.rps ∧ (idleBank b s).mnt = s.mnt ∧
    (idleBank b s).evt = s.evt ∧ (idleBank b s).uer = s.uer ∧ (idleBank b s).array = s.array ∧
    (idleBank b s).readData = s.readData ∧ (idleBank b s).lineReads = s.lineReads ∧
    (idleBank b s).pending = s.pending := by
  unfold idleBank; simp

@[simp] theorem repairLine_frame (b : Bank) (rows : Rows) (n : LineNo) (r : ReadResult) (s : State) :
    (repairLine b rows n r s).powered = s.powered ∧ (repairLine b rows n r s).rstAsserted = s.rstAsserted ∧
    (repairLine b rows n r s).hpt = s.hpt ∧ (repairLine b rows n r s).req = s.req ∧
    (repairLine b rows n r s).buf = s.buf ∧ (repairLine b rows n r s).cpl = s.cpl ∧
    (repairLine b rows n r s).banks = s.banks ∧ (repairLine b rows n r s).refreshTimer = s.refreshTimer ∧
    (repairLine b rows n r s).rmp = s.rmp ∧ (repairLine b rows n r s).mig = s.mig ∧
    (repairLine b rows n r s).frt = s.frt ∧ (repairLine b rows n r s).ptl = s.ptl ∧
    (repairLine b rows n r s).rps = s.rps ∧ (repairLine b rows n r s).mnt = s.mnt ∧
    (repairLine b rows n r s).evt = s.evt ∧ (repairLine b rows n r s).uer = s.uer ∧
    (repairLine b rows n r s).readData = s.readData ∧ (repairLine b rows n r s).lineReads = s.lineReads ∧
    (repairLine b rows n r s).pending = s.pending := by
  unfold repairLine; split <;> simp

@[simp] theorem mergeLineEffect_frame (b : Bank) (rows : Rows) (n : LineNo) (m : BitVec 8) (w : LineWords) (r : ReadResult) (s : State) :
    (mergeLineEffect b rows n m w r s).powered = s.powered ∧
    (mergeLineEffect b rows n m w r s).rstAsserted = s.rstAsserted ∧
    (mergeLineEffect b rows n m w r s).hpt = s.hpt ∧ (mergeLineEffect b rows n m w r s).req = s.req ∧
    (mergeLineEffect b rows n m w r s).buf = s.buf ∧ (mergeLineEffect b rows n m w r s).cpl = s.cpl ∧
    (mergeLineEffect b rows n m w r s).banks = s.banks ∧
    (mergeLineEffect b rows n m w r s).refreshTimer = s.refreshTimer ∧
    (mergeLineEffect b rows n m w r s).rmp = s.rmp ∧ (mergeLineEffect b rows n m w r s).mig = s.mig ∧
    (mergeLineEffect b rows n m w r s).frt = s.frt ∧ (mergeLineEffect b rows n m w r s).ptl = s.ptl ∧
    (mergeLineEffect b rows n m w r s).rps = s.rps ∧ (mergeLineEffect b rows n m w r s).mnt = s.mnt ∧
    (mergeLineEffect b rows n m w r s).evt = s.evt ∧ (mergeLineEffect b rows n m w r s).uer = s.uer ∧
    (mergeLineEffect b rows n m w r s).readData = s.readData ∧
    (mergeLineEffect b rows n m w r s).lineReads = s.lineReads ∧
    (mergeLineEffect b rows n m w r s).pending = s.pending := by
  unfold mergeLineEffect; split <;> simp

@[simp] theorem copyLineEffect_frame (b : Bank) (p : PhysRow) (t : SpareIdx) (n : LineNo) (r : ReadResult) (s : State) :
    (copyLineEffect b p t n r s).powered = s.powered ∧
    (copyLineEffect b p t n r s).rstAsserted = s.rstAsserted ∧ (copyLineEffect b p t n r s).hpt = s.hpt ∧
    (copyLineEffect b p t n r s).req = s.req ∧ (copyLineEffect b p t n r s).buf = s.buf ∧
    (copyLineEffect b p t n r s).cpl = s.cpl ∧ (copyLineEffect b p t n r s).banks = s.banks ∧
    (copyLineEffect b p t n r s).refreshTimer = s.refreshTimer ∧ (copyLineEffect b p t n r s).rmp = s.rmp ∧
    (copyLineEffect b p t n r s).mig = s.mig ∧ (copyLineEffect b p t n r s).frt = s.frt ∧
    (copyLineEffect b p t n r s).ptl = s.ptl ∧ (copyLineEffect b p t n r s).rps = s.rps ∧
    (copyLineEffect b p t n r s).mnt = s.mnt ∧ (copyLineEffect b p t n r s).evt = s.evt ∧
    (copyLineEffect b p t n r s).uer = s.uer ∧ (copyLineEffect b p t n r s).readData = s.readData ∧
    (copyLineEffect b p t n r s).lineReads = s.lineReads ∧ (copyLineEffect b p t n r s).pending = s.pending := by
  unfold copyLineEffect; split <;> simp

@[simp] theorem completeRequest_frame (q : Request) (o : HostOutcome) (f : Bool) (d : Option LineWords) (s : State) :
    (completeRequest q o f d s).powered = s.powered ∧
    (completeRequest q o f d s).rstAsserted = s.rstAsserted ∧ (completeRequest q o f d s).hpt = s.hpt ∧
    (completeRequest q o f d s).banks = s.banks ∧
    (completeRequest q o f d s).refreshTimer = s.refreshTimer ∧ (completeRequest q o f d s).rmp = s.rmp ∧
    (completeRequest q o f d s).mig = s.mig ∧ (completeRequest q o f d s).frt = s.frt ∧
    (completeRequest q o f d s).ptl = s.ptl ∧ (completeRequest q o f d s).rps = s.rps ∧
    (completeRequest q o f d s).mnt = s.mnt ∧ (completeRequest q o f d s).evt = s.evt ∧
    (completeRequest q o f d s).uer = s.uer ∧ (completeRequest q o f d s).array = s.array ∧
    (completeRequest q o f d s).readData = s.readData ∧
    (completeRequest q o f d s).lineReads = s.lineReads ∧ (completeRequest q o f d s).pending = s.pending := by
  unfold completeRequest; simp

@[simp] theorem acceptRequest_frame (q : Request) (s : State) :
    (acceptRequest q s).powered = s.powered ∧ (acceptRequest q s).rstAsserted = s.rstAsserted ∧
    (acceptRequest q s).hpt = s.hpt ∧ (acceptRequest q s).cpl = s.cpl ∧
    (acceptRequest q s).banks = s.banks ∧ (acceptRequest q s).refreshTimer = s.refreshTimer ∧
    (acceptRequest q s).rmp = s.rmp ∧ (acceptRequest q s).mig = s.mig ∧ (acceptRequest q s).frt = s.frt ∧
    (acceptRequest q s).ptl = s.ptl ∧ (acceptRequest q s).rps = s.rps ∧ (acceptRequest q s).mnt = s.mnt ∧
    (acceptRequest q s).evt = s.evt ∧ (acceptRequest q s).uer = s.uer ∧
    (acceptRequest q s).array = s.array ∧ (acceptRequest q s).readData = s.readData ∧
    (acceptRequest q s).lineReads = s.lineReads ∧ (acceptRequest q s).pending = s.pending := by
  unfold acceptRequest; simp

@[simp] theorem rejectRequest_frame (r : SubmitResult) (s : State) :
    (rejectRequest r s).powered = s.powered ∧ (rejectRequest r s).rstAsserted = s.rstAsserted ∧
    (rejectRequest r s).hpt = s.hpt ∧ (rejectRequest r s).buf = s.buf ∧ (rejectRequest r s).cpl = s.cpl ∧
    (rejectRequest r s).banks = s.banks ∧ (rejectRequest r s).refreshTimer = s.refreshTimer ∧
    (rejectRequest r s).rmp = s.rmp ∧ (rejectRequest r s).mig = s.mig ∧ (rejectRequest r s).frt = s.frt ∧
    (rejectRequest r s).ptl = s.ptl ∧ (rejectRequest r s).rps = s.rps ∧ (rejectRequest r s).mnt = s.mnt ∧
    (rejectRequest r s).uer = s.uer ∧ (rejectRequest r s).array = s.array ∧
    (rejectRequest r s).readData = s.readData ∧ (rejectRequest r s).lineReads = s.lineReads ∧
    (rejectRequest r s).pending = s.pending := by
  unfold rejectRequest; simp

@[simp] theorem submitRequest_frame (w : Word) (s : State) :
    (submitRequest w s).powered = s.powered ∧ (submitRequest w s).rstAsserted = s.rstAsserted ∧
    (submitRequest w s).hpt = s.hpt ∧ (submitRequest w s).cpl = s.cpl ∧
    (submitRequest w s).banks = s.banks ∧ (submitRequest w s).refreshTimer = s.refreshTimer ∧
    (submitRequest w s).rmp = s.rmp ∧ (submitRequest w s).mig = s.mig ∧ (submitRequest w s).frt = s.frt ∧
    (submitRequest w s).ptl = s.ptl ∧ (submitRequest w s).rps = s.rps ∧ (submitRequest w s).mnt = s.mnt ∧
    (submitRequest w s).uer = s.uer ∧ (submitRequest w s).array = s.array ∧
    (submitRequest w s).readData = s.readData ∧ (submitRequest w s).lineReads = s.lineReads ∧
    (submitRequest w s).pending = s.pending := by
  unfold submitRequest; split <;> simp

@[simp] theorem popCompletion_frame (s : State) :
    (popCompletion s).powered = s.powered ∧ (popCompletion s).rstAsserted = s.rstAsserted ∧
    (popCompletion s).hpt = s.hpt ∧ (popCompletion s).req = s.req ∧ (popCompletion s).buf = s.buf ∧
    (popCompletion s).banks = s.banks ∧ (popCompletion s).refreshTimer = s.refreshTimer ∧
    (popCompletion s).rmp = s.rmp ∧ (popCompletion s).mig = s.mig ∧ (popCompletion s).frt = s.frt ∧
    (popCompletion s).ptl = s.ptl ∧ (popCompletion s).rps = s.rps ∧ (popCompletion s).mnt = s.mnt ∧
    (popCompletion s).evt = s.evt ∧ (popCompletion s).uer = s.uer ∧ (popCompletion s).array = s.array ∧
    (popCompletion s).readData = s.readData ∧ (popCompletion s).lineReads = s.lineReads ∧
    (popCompletion s).pending = s.pending := by
  unfold popCompletion; simp

@[simp] theorem readBufData_frame (s : State) :
    (readBufData s).powered = s.powered ∧ (readBufData s).rstAsserted = s.rstAsserted ∧
    (readBufData s).hpt = s.hpt ∧ (readBufData s).req = s.req ∧ (readBufData s).cpl = s.cpl ∧
    (readBufData s).banks = s.banks ∧ (readBufData s).refreshTimer = s.refreshTimer ∧
    (readBufData s).rmp = s.rmp ∧ (readBufData s).mig = s.mig ∧ (readBufData s).frt = s.frt ∧
    (readBufData s).ptl = s.ptl ∧ (readBufData s).rps = s.rps ∧ (readBufData s).mnt = s.mnt ∧
    (readBufData s).uer = s.uer ∧ (readBufData s).array = s.array ∧
    (readBufData s).lineReads = s.lineReads ∧ (readBufData s).pending = s.pending := by
  unfold readBufData; dsimp only; split <;> simp

@[simp] theorem writeBufData_frame (w : Word) (s : State) :
    (writeBufData w s).powered = s.powered ∧ (writeBufData w s).rstAsserted = s.rstAsserted ∧
    (writeBufData w s).hpt = s.hpt ∧ (writeBufData w s).req = s.req ∧ (writeBufData w s).cpl = s.cpl ∧
    (writeBufData w s).banks = s.banks ∧ (writeBufData w s).refreshTimer = s.refreshTimer ∧
    (writeBufData w s).rmp = s.rmp ∧ (writeBufData w s).mig = s.mig ∧ (writeBufData w s).frt = s.frt ∧
    (writeBufData w s).ptl = s.ptl ∧ (writeBufData w s).rps = s.rps ∧ (writeBufData w s).mnt = s.mnt ∧
    (writeBufData w s).uer = s.uer ∧ (writeBufData w s).array = s.array ∧
    (writeBufData w s).readData = s.readData ∧ (writeBufData w s).lineReads = s.lineReads ∧
    (writeBufData w s).pending = s.pending := by
  unfold writeBufData; dsimp only; split <;> simp

@[simp] theorem dispatchRequest_frame (q : Request) (s : State) :
    (dispatchRequest q s).powered = s.powered ∧ (dispatchRequest q s).rstAsserted = s.rstAsserted ∧
    (dispatchRequest q s).hpt = s.hpt ∧ (dispatchRequest q s).refreshTimer = s.refreshTimer ∧
    (dispatchRequest q s).rmp = s.rmp ∧ (dispatchRequest q s).rps = s.rps ∧
    (dispatchRequest q s).mnt = s.mnt ∧ (dispatchRequest q s).uer = s.uer ∧
    (dispatchRequest q s).array = s.array ∧ (dispatchRequest q s).readData = s.readData ∧
    (dispatchRequest q s).lineReads = s.lineReads ∧ (dispatchRequest q s).pending = s.pending := by
  unfold dispatchRequest; split <;> simp

@[simp] theorem placeCopy_frame (b : Bank) (l : LogicalRow) (s : State) :
    (placeCopy b l s).powered = s.powered ∧ (placeCopy b l s).rstAsserted = s.rstAsserted ∧
    (placeCopy b l s).hpt = s.hpt ∧ (placeCopy b l s).req = s.req ∧ (placeCopy b l s).buf = s.buf ∧
    (placeCopy b l s).cpl = s.cpl ∧ (placeCopy b l s).refreshTimer = s.refreshTimer ∧
    (placeCopy b l s).rmp = s.rmp ∧ (placeCopy b l s).rps = s.rps ∧ (placeCopy b l s).mnt = s.mnt ∧
    (placeCopy b l s).uer = s.uer ∧ (placeCopy b l s).array = s.array ∧
    (placeCopy b l s).readData = s.readData ∧ (placeCopy b l s).lineReads = s.lineReads ∧
    (placeCopy b l s).pending = s.pending := by
  unfold placeCopy; simp

@[simp] theorem placeClear_frame (b : Bank) (p : RowLine) (s : State) :
    (placeClear b p s).powered = s.powered ∧ (placeClear b p s).rstAsserted = s.rstAsserted ∧
    (placeClear b p s).hpt = s.hpt ∧ (placeClear b p s).req = s.req ∧ (placeClear b p s).buf = s.buf ∧
    (placeClear b p s).cpl = s.cpl ∧ (placeClear b p s).refreshTimer = s.refreshTimer ∧
    (placeClear b p s).rmp = s.rmp ∧ (placeClear b p s).rps = s.rps ∧ (placeClear b p s).mnt = s.mnt ∧
    (placeClear b p s).uer = s.uer ∧ (placeClear b p s).array = s.array ∧
    (placeClear b p s).readData = s.readData ∧ (placeClear b p s).lineReads = s.lineReads ∧
    (placeClear b p s).pending = s.pending := by
  unfold placeClear; simp

@[simp] theorem placeStep_frame (p : Position) (s : State) :
    (placeStep p s).powered = s.powered ∧ (placeStep p s).rstAsserted = s.rstAsserted ∧
    (placeStep p s).hpt = s.hpt ∧ (placeStep p s).req = s.req ∧ (placeStep p s).buf = s.buf ∧
    (placeStep p s).cpl = s.cpl ∧ (placeStep p s).refreshTimer = s.refreshTimer ∧
    (placeStep p s).rmp = s.rmp ∧ (placeStep p s).rps = s.rps ∧ (placeStep p s).mnt = s.mnt ∧
    (placeStep p s).uer = s.uer ∧ (placeStep p s).array = s.array ∧ (placeStep p s).readData = s.readData ∧
    (placeStep p s).lineReads = s.lineReads ∧ (placeStep p s).pending = s.pending := by
  unfold placeStep; simp

@[simp] theorem issueStep_frame (s : State) :
    (issueStep s).powered = s.powered ∧ (issueStep s).rstAsserted = s.rstAsserted ∧
    (issueStep s).hpt = s.hpt ∧ (issueStep s).req = s.req ∧ (issueStep s).buf = s.buf ∧
    (issueStep s).cpl = s.cpl ∧ (issueStep s).refreshTimer = s.refreshTimer ∧ (issueStep s).rmp = s.rmp ∧
    (issueStep s).rps = s.rps ∧ (issueStep s).mnt = s.mnt ∧ (issueStep s).uer = s.uer ∧
    (issueStep s).array = s.array ∧ (issueStep s).readData = s.readData ∧
    (issueStep s).lineReads = s.lineReads ∧ (issueStep s).pending = s.pending := by
  unfold issueStep; (repeat' split) <;> simp

@[simp] theorem refreshExpiry_frame (s : State) :
    (refreshExpiry s).powered = s.powered ∧ (refreshExpiry s).rstAsserted = s.rstAsserted ∧
    (refreshExpiry s).hpt = s.hpt ∧ (refreshExpiry s).req = s.req ∧ (refreshExpiry s).buf = s.buf ∧
    (refreshExpiry s).cpl = s.cpl ∧ (refreshExpiry s).refreshTimer = s.refreshTimer ∧
    (refreshExpiry s).rmp = s.rmp ∧ (refreshExpiry s).rps = s.rps ∧ (refreshExpiry s).mnt = s.mnt ∧
    (refreshExpiry s).uer = s.uer ∧ (refreshExpiry s).array = s.array ∧
    (refreshExpiry s).readData = s.readData ∧ (refreshExpiry s).lineReads = s.lineReads ∧
    (refreshExpiry s).pending = s.pending := by
  simp [refreshExpiry, allBanks]

@[simp] theorem burnPasses_frame (u : Burn) (s : State) :
    (burnPasses u s).powered = s.powered ∧ (burnPasses u s).rstAsserted = s.rstAsserted ∧
    (burnPasses u s).hpt = s.hpt ∧ (burnPasses u s).req = s.req ∧ (burnPasses u s).buf = s.buf ∧
    (burnPasses u s).cpl = s.cpl ∧ (burnPasses u s).banks = s.banks ∧
    (burnPasses u s).refreshTimer = s.refreshTimer ∧ (burnPasses u s).mig = s.mig ∧
    (burnPasses u s).frt = s.frt ∧ (burnPasses u s).ptl = s.ptl ∧ (burnPasses u s).uer = s.uer ∧
    (burnPasses u s).array = s.array ∧ (burnPasses u s).readData = s.readData ∧
    (burnPasses u s).lineReads = s.lineReads ∧ (burnPasses u s).pending = s.pending := by
  unfold burnPasses; dsimp only; split <;> simp

@[simp] theorem burnFails_frame (u : Burn) (s : State) :
    (burnFails u s).powered = s.powered ∧ (burnFails u s).rstAsserted = s.rstAsserted ∧
    (burnFails u s).hpt = s.hpt ∧ (burnFails u s).req = s.req ∧ (burnFails u s).buf = s.buf ∧
    (burnFails u s).cpl = s.cpl ∧ (burnFails u s).banks = s.banks ∧
    (burnFails u s).refreshTimer = s.refreshTimer ∧ (burnFails u s).rmp = s.rmp ∧
    (burnFails u s).mig = s.mig ∧ (burnFails u s).frt = s.frt ∧ (burnFails u s).ptl = s.ptl ∧
    (burnFails u s).uer = s.uer ∧ (burnFails u s).array = s.array ∧ (burnFails u s).readData = s.readData ∧
    (burnFails u s).lineReads = s.lineReads ∧ (burnFails u s).pending = s.pending := by
  unfold burnFails; simp

@[simp] theorem attemptFails_frame (u : Burn) (s : State) :
    (attemptFails u s).powered = s.powered ∧ (attemptFails u s).rstAsserted = s.rstAsserted ∧
    (attemptFails u s).hpt = s.hpt ∧ (attemptFails u s).req = s.req ∧ (attemptFails u s).buf = s.buf ∧
    (attemptFails u s).cpl = s.cpl ∧ (attemptFails u s).banks = s.banks ∧
    (attemptFails u s).refreshTimer = s.refreshTimer ∧ (attemptFails u s).rmp = s.rmp ∧
    (attemptFails u s).mig = s.mig ∧ (attemptFails u s).frt = s.frt ∧ (attemptFails u s).ptl = s.ptl ∧
    (attemptFails u s).uer = s.uer ∧ (attemptFails u s).array = s.array ∧
    (attemptFails u s).readData = s.readData ∧ (attemptFails u s).lineReads = s.lineReads ∧
    (attemptFails u s).pending = s.pending := by
  unfold attemptFails; (repeat' split) <;> simp

@[simp] theorem attemptEnds_frame (p : Bool) (s : State) :
    (attemptEnds p s).powered = s.powered ∧ (attemptEnds p s).rstAsserted = s.rstAsserted ∧
    (attemptEnds p s).hpt = s.hpt ∧ (attemptEnds p s).req = s.req ∧ (attemptEnds p s).buf = s.buf ∧
    (attemptEnds p s).cpl = s.cpl ∧ (attemptEnds p s).banks = s.banks ∧
    (attemptEnds p s).refreshTimer = s.refreshTimer ∧ (attemptEnds p s).mig = s.mig ∧
    (attemptEnds p s).frt = s.frt ∧ (attemptEnds p s).ptl = s.ptl ∧ (attemptEnds p s).uer = s.uer ∧
    (attemptEnds p s).array = s.array ∧ (attemptEnds p s).readData = s.readData ∧
    (attemptEnds p s).lineReads = s.lineReads ∧ (attemptEnds p s).pending = s.pending := by
  unfold attemptEnds; (repeat' split) <;> simp

@[simp] theorem beginClear_frame (b : Bank) (s : State) :
    (beginClear b s).powered = s.powered ∧ (beginClear b s).rstAsserted = s.rstAsserted ∧
    (beginClear b s).hpt = s.hpt ∧ (beginClear b s).req = s.req ∧ (beginClear b s).buf = s.buf ∧
    (beginClear b s).cpl = s.cpl ∧ (beginClear b s).refreshTimer = s.refreshTimer ∧
    (beginClear b s).rmp = s.rmp ∧ (beginClear b s).mig = s.mig ∧ (beginClear b s).rps = s.rps ∧
    (beginClear b s).evt = s.evt ∧ (beginClear b s).uer = s.uer ∧ (beginClear b s).array = s.array ∧
    (beginClear b s).readData = s.readData ∧ (beginClear b s).lineReads = s.lineReads ∧
    (beginClear b s).pending = s.pending := by
  unfold beginClear; simp

@[simp] theorem clearBankBody_frame (a : MntArg) (s : State) :
    (clearBankBody a s).powered = s.powered ∧ (clearBankBody a s).rstAsserted = s.rstAsserted ∧
    (clearBankBody a s).hpt = s.hpt ∧ (clearBankBody a s).req = s.req ∧ (clearBankBody a s).buf = s.buf ∧
    (clearBankBody a s).cpl = s.cpl ∧ (clearBankBody a s).refreshTimer = s.refreshTimer ∧
    (clearBankBody a s).rmp = s.rmp ∧ (clearBankBody a s).mig = s.mig ∧ (clearBankBody a s).rps = s.rps ∧
    (clearBankBody a s).uer = s.uer ∧ (clearBankBody a s).array = s.array ∧
    (clearBankBody a s).readData = s.readData ∧ (clearBankBody a s).lineReads = s.lineReads ∧
    (clearBankBody a s).pending = s.pending := by
  unfold clearBankBody; (repeat' split) <;> simp

@[simp] theorem migrateRowBody_frame (a : MntArg) (s : State) :
    (migrateRowBody a s).powered = s.powered ∧ (migrateRowBody a s).rstAsserted = s.rstAsserted ∧
    (migrateRowBody a s).hpt = s.hpt ∧ (migrateRowBody a s).req = s.req ∧
    (migrateRowBody a s).buf = s.buf ∧ (migrateRowBody a s).cpl = s.cpl ∧
    (migrateRowBody a s).banks = s.banks ∧ (migrateRowBody a s).refreshTimer = s.refreshTimer ∧
    (migrateRowBody a s).ptl = s.ptl ∧ (migrateRowBody a s).rps = s.rps ∧
    (migrateRowBody a s).uer = s.uer ∧ (migrateRowBody a s).array = s.array ∧
    (migrateRowBody a s).readData = s.readData ∧ (migrateRowBody a s).lineReads = s.lineReads ∧
    (migrateRowBody a s).pending = s.pending := by
  unfold migrateRowBody; (repeat' split) <;> simp

@[simp] theorem abortMigrationBody_frame (a : MntArg) (s : State) :
    (abortMigrationBody a s).powered = s.powered ∧ (abortMigrationBody a s).rstAsserted = s.rstAsserted ∧
    (abortMigrationBody a s).hpt = s.hpt ∧ (abortMigrationBody a s).req = s.req ∧
    (abortMigrationBody a s).buf = s.buf ∧ (abortMigrationBody a s).cpl = s.cpl ∧
    (abortMigrationBody a s).refreshTimer = s.refreshTimer ∧ (abortMigrationBody a s).ptl = s.ptl ∧
    (abortMigrationBody a s).rps = s.rps ∧ (abortMigrationBody a s).uer = s.uer ∧
    (abortMigrationBody a s).array = s.array ∧ (abortMigrationBody a s).readData = s.readData ∧
    (abortMigrationBody a s).lineReads = s.lineReads ∧ (abortMigrationBody a s).pending = s.pending := by
  unfold abortMigrationBody; split <;> simp

@[simp] theorem beginBurn_frame (b : Bank) (l : LogicalRow) (i : SpareIdx) (s : State) :
    (beginBurn b l i s).powered = s.powered ∧ (beginBurn b l i s).rstAsserted = s.rstAsserted ∧
    (beginBurn b l i s).hpt = s.hpt ∧ (beginBurn b l i s).req = s.req ∧ (beginBurn b l i s).buf = s.buf ∧
    (beginBurn b l i s).cpl = s.cpl ∧ (beginBurn b l i s).banks = s.banks ∧
    (beginBurn b l i s).refreshTimer = s.refreshTimer ∧ (beginBurn b l i s).rmp = s.rmp ∧
    (beginBurn b l i s).mig = s.mig ∧ (beginBurn b l i s).frt = s.frt ∧ (beginBurn b l i s).ptl = s.ptl ∧
    (beginBurn b l i s).uer = s.uer ∧ (beginBurn b l i s).array = s.array ∧
    (beginBurn b l i s).readData = s.readData ∧ (beginBurn b l i s).lineReads = s.lineReads ∧
    (beginBurn b l i s).pending = s.pending := by
  unfold beginBurn; split <;> simp

@[simp] theorem burnRowBody_frame (a : MntArg) (s : State) :
    (burnRowBody a s).powered = s.powered ∧ (burnRowBody a s).rstAsserted = s.rstAsserted ∧
    (burnRowBody a s).hpt = s.hpt ∧ (burnRowBody a s).req = s.req ∧ (burnRowBody a s).buf = s.buf ∧
    (burnRowBody a s).cpl = s.cpl ∧ (burnRowBody a s).banks = s.banks ∧
    (burnRowBody a s).refreshTimer = s.refreshTimer ∧ (burnRowBody a s).rmp = s.rmp ∧
    (burnRowBody a s).mig = s.mig ∧ (burnRowBody a s).frt = s.frt ∧ (burnRowBody a s).ptl = s.ptl ∧
    (burnRowBody a s).uer = s.uer ∧ (burnRowBody a s).array = s.array ∧
    (burnRowBody a s).readData = s.readData ∧ (burnRowBody a s).lineReads = s.lineReads ∧
    (burnRowBody a s).pending = s.pending := by
  unfold burnRowBody; (repeat' split) <;> simp

@[simp] theorem setHold_frame (v : Bool) (s : State) :
    (setHold v s).powered = s.powered ∧ (setHold v s).rstAsserted = s.rstAsserted ∧
    (setHold v s).hpt = s.hpt ∧ (setHold v s).req = s.req ∧ (setHold v s).buf = s.buf ∧
    (setHold v s).cpl = s.cpl ∧ (setHold v s).banks = s.banks ∧
    (setHold v s).refreshTimer = s.refreshTimer ∧ (setHold v s).rmp = s.rmp ∧ (setHold v s).mig = s.mig ∧
    (setHold v s).frt = s.frt ∧ (setHold v s).ptl = s.ptl ∧ (setHold v s).rps = s.rps ∧
    (setHold v s).evt = s.evt ∧ (setHold v s).uer = s.uer ∧ (setHold v s).array = s.array ∧
    (setHold v s).readData = s.readData ∧ (setHold v s).lineReads = s.lineReads ∧
    (setHold v s).pending = s.pending := by
  unfold setHold; simp

@[simp] theorem holdBody_frame (a : MntArg) (s : State) :
    (holdBody a s).powered = s.powered ∧ (holdBody a s).rstAsserted = s.rstAsserted ∧
    (holdBody a s).hpt = s.hpt ∧ (holdBody a s).req = s.req ∧ (holdBody a s).buf = s.buf ∧
    (holdBody a s).cpl = s.cpl ∧ (holdBody a s).refreshTimer = s.refreshTimer ∧
    (holdBody a s).rmp = s.rmp ∧ (holdBody a s).frt = s.frt ∧ (holdBody a s).rps = s.rps ∧
    (holdBody a s).uer = s.uer ∧ (holdBody a s).array = s.array ∧ (holdBody a s).readData = s.readData ∧
    (holdBody a s).lineReads = s.lineReads ∧ (holdBody a s).pending = s.pending := by
  unfold holdBody; (repeat' split) <;> simp

@[simp] theorem releaseBody_frame (a : MntArg) (s : State) :
    (releaseBody a s).powered = s.powered ∧ (releaseBody a s).rstAsserted = s.rstAsserted ∧
    (releaseBody a s).hpt = s.hpt ∧ (releaseBody a s).req = s.req ∧ (releaseBody a s).buf = s.buf ∧
    (releaseBody a s).cpl = s.cpl ∧ (releaseBody a s).banks = s.banks ∧
    (releaseBody a s).refreshTimer = s.refreshTimer ∧ (releaseBody a s).rmp = s.rmp ∧
    (releaseBody a s).frt = s.frt ∧ (releaseBody a s).ptl = s.ptl ∧ (releaseBody a s).rps = s.rps ∧
    (releaseBody a s).uer = s.uer ∧ (releaseBody a s).array = s.array ∧
    (releaseBody a s).readData = s.readData ∧ (releaseBody a s).lineReads = s.lineReads ∧
    (releaseBody a s).pending = s.pending := by
  unfold releaseBody; (repeat' split) <;> simp

@[simp] theorem retainIdleBanks_frame (s : State) :
    (retainIdleBanks s).powered = s.powered ∧ (retainIdleBanks s).rstAsserted = s.rstAsserted ∧
    (retainIdleBanks s).req = s.req ∧ (retainIdleBanks s).buf = s.buf ∧ (retainIdleBanks s).cpl = s.cpl ∧
    (retainIdleBanks s).rmp = s.rmp ∧ (retainIdleBanks s).mig = s.mig ∧ (retainIdleBanks s).frt = s.frt ∧
    (retainIdleBanks s).ptl = s.ptl ∧ (retainIdleBanks s).rps = s.rps ∧ (retainIdleBanks s).uer = s.uer ∧
    (retainIdleBanks s).array = s.array ∧ (retainIdleBanks s).readData = s.readData ∧
    (retainIdleBanks s).lineReads = s.lineReads ∧ (retainIdleBanks s).pending = s.pending := by
  simp only [retainIdleBanks, allBanks, List.foldl_cons, List.foldl_nil]
  have h : ∀ (b : Bank) (t : State), (if mayRetain b t = true then retainBank b t else t).powered = t.powered ∧ (if mayRetain b t = true then retainBank b t else t).rstAsserted = t.rstAsserted ∧ (if mayRetain b t = true then retainBank b t else t).req = t.req ∧ (if mayRetain b t = true then retainBank b t else t).buf = t.buf ∧ (if mayRetain b t = true then retainBank b t else t).cpl = t.cpl ∧ (if mayRetain b t = true then retainBank b t else t).rmp = t.rmp ∧ (if mayRetain b t = true then retainBank b t else t).mig = t.mig ∧ (if mayRetain b t = true then retainBank b t else t).frt = t.frt ∧ (if mayRetain b t = true then retainBank b t else t).ptl = t.ptl ∧ (if mayRetain b t = true then retainBank b t else t).rps = t.rps ∧ (if mayRetain b t = true then retainBank b t else t).uer = t.uer ∧ (if mayRetain b t = true then retainBank b t else t).array = t.array ∧ (if mayRetain b t = true then retainBank b t else t).readData = t.readData ∧ (if mayRetain b t = true then retainBank b t else t).lineReads = t.lineReads ∧ (if mayRetain b t = true then retainBank b t else t).pending = t.pending := by
    intro b t; split <;> simp
  simp [h]

@[simp] theorem enterRetention_frame (s : State) :
    (enterRetention s).powered = s.powered ∧ (enterRetention s).rstAsserted = s.rstAsserted ∧
    (enterRetention s).req = s.req ∧ (enterRetention s).buf = s.buf ∧ (enterRetention s).cpl = s.cpl ∧
    (enterRetention s).rmp = s.rmp ∧ (enterRetention s).frt = s.frt ∧ (enterRetention s).rps = s.rps ∧
    (enterRetention s).uer = s.uer ∧ (enterRetention s).array = s.array ∧
    (enterRetention s).readData = s.readData ∧ (enterRetention s).lineReads = s.lineReads ∧
    (enterRetention s).pending = s.pending := by
  unfold enterRetention; split <;> simp

@[simp] theorem enterRetentionBody_frame (a : MntArg) (s : State) :
    (enterRetentionBody a s).powered = s.powered ∧ (enterRetentionBody a s).rstAsserted = s.rstAsserted ∧
    (enterRetentionBody a s).req = s.req ∧ (enterRetentionBody a s).buf = s.buf ∧
    (enterRetentionBody a s).cpl = s.cpl ∧ (enterRetentionBody a s).rmp = s.rmp ∧
    (enterRetentionBody a s).frt = s.frt ∧ (enterRetentionBody a s).rps = s.rps ∧
    (enterRetentionBody a s).uer = s.uer ∧ (enterRetentionBody a s).array = s.array ∧
    (enterRetentionBody a s).readData = s.readData ∧ (enterRetentionBody a s).lineReads = s.lineReads ∧
    (enterRetentionBody a s).pending = s.pending := by
  unfold enterRetentionBody; split <;> simp

@[simp] theorem exitRetentionBody_frame (a : MntArg) (s : State) :
    (exitRetentionBody a s).powered = s.powered ∧ (exitRetentionBody a s).rstAsserted = s.rstAsserted ∧
    (exitRetentionBody a s).req = s.req ∧ (exitRetentionBody a s).buf = s.buf ∧
    (exitRetentionBody a s).cpl = s.cpl ∧ (exitRetentionBody a s).refreshTimer = s.refreshTimer ∧
    (exitRetentionBody a s).rmp = s.rmp ∧ (exitRetentionBody a s).mig = s.mig ∧
    (exitRetentionBody a s).frt = s.frt ∧ (exitRetentionBody a s).ptl = s.ptl ∧
    (exitRetentionBody a s).rps = s.rps ∧ (exitRetentionBody a s).uer = s.uer ∧
    (exitRetentionBody a s).array = s.array ∧ (exitRetentionBody a s).readData = s.readData ∧
    (exitRetentionBody a s).lineReads = s.lineReads ∧ (exitRetentionBody a s).pending = s.pending := by
  unfold exitRetentionBody; split <;> simp

@[simp] theorem finishExit_frame (s : State) :
    (finishExit s).powered = s.powered ∧ (finishExit s).rstAsserted = s.rstAsserted ∧
    (finishExit s).req = s.req ∧ (finishExit s).buf = s.buf ∧ (finishExit s).cpl = s.cpl ∧
    (finishExit s).banks = s.banks ∧ (finishExit s).rmp = s.rmp ∧ (finishExit s).frt = s.frt ∧
    (finishExit s).ptl = s.ptl ∧ (finishExit s).rps = s.rps ∧ (finishExit s).uer = s.uer ∧
    (finishExit s).array = s.array ∧ (finishExit s).readData = s.readData ∧
    (finishExit s).lineReads = s.lineReads ∧ (finishExit s).pending = s.pending := by
  unfold finishExit; dsimp only; split <;> simp

@[simp] theorem dropRecordBody_frame (a : MntArg) (s : State) :
    (dropRecordBody a s).powered = s.powered ∧ (dropRecordBody a s).rstAsserted = s.rstAsserted ∧
    (dropRecordBody a s).hpt = s.hpt ∧ (dropRecordBody a s).req = s.req ∧
    (dropRecordBody a s).buf = s.buf ∧ (dropRecordBody a s).cpl = s.cpl ∧
    (dropRecordBody a s).banks = s.banks ∧ (dropRecordBody a s).refreshTimer = s.refreshTimer ∧
    (dropRecordBody a s).rmp = s.rmp ∧ (dropRecordBody a s).mig = s.mig ∧
    (dropRecordBody a s).ptl = s.ptl ∧ (dropRecordBody a s).rps = s.rps ∧
    (dropRecordBody a s).uer = s.uer ∧ (dropRecordBody a s).array = s.array ∧
    (dropRecordBody a s).readData = s.readData ∧ (dropRecordBody a s).lineReads = s.lineReads ∧
    (dropRecordBody a s).pending = s.pending := by
  unfold dropRecordBody; (repeat' split) <;> simp

@[simp] theorem restartPatrolBody_frame (a : MntArg) (s : State) :
    (restartPatrolBody a s).powered = s.powered ∧ (restartPatrolBody a s).rstAsserted = s.rstAsserted ∧
    (restartPatrolBody a s).hpt = s.hpt ∧ (restartPatrolBody a s).req = s.req ∧
    (restartPatrolBody a s).buf = s.buf ∧ (restartPatrolBody a s).cpl = s.cpl ∧
    (restartPatrolBody a s).refreshTimer = s.refreshTimer ∧ (restartPatrolBody a s).rmp = s.rmp ∧
    (restartPatrolBody a s).mig = s.mig ∧ (restartPatrolBody a s).frt = s.frt ∧
    (restartPatrolBody a s).rps = s.rps ∧ (restartPatrolBody a s).uer = s.uer ∧
    (restartPatrolBody a s).array = s.array ∧ (restartPatrolBody a s).readData = s.readData ∧
    (restartPatrolBody a s).lineReads = s.lineReads ∧ (restartPatrolBody a s).pending = s.pending := by
  unfold restartPatrolBody; simp

@[simp] theorem badCommandBody_frame (a : MntArg) (s : State) :
    (badCommandBody a s).powered = s.powered ∧ (badCommandBody a s).rstAsserted = s.rstAsserted ∧
    (badCommandBody a s).hpt = s.hpt ∧ (badCommandBody a s).req = s.req ∧
    (badCommandBody a s).buf = s.buf ∧ (badCommandBody a s).cpl = s.cpl ∧
    (badCommandBody a s).banks = s.banks ∧ (badCommandBody a s).refreshTimer = s.refreshTimer ∧
    (badCommandBody a s).rmp = s.rmp ∧ (badCommandBody a s).mig = s.mig ∧
    (badCommandBody a s).frt = s.frt ∧ (badCommandBody a s).ptl = s.ptl ∧
    (badCommandBody a s).rps = s.rps ∧ (badCommandBody a s).uer = s.uer ∧
    (badCommandBody a s).array = s.array ∧ (badCommandBody a s).readData = s.readData ∧
    (badCommandBody a s).lineReads = s.lineReads ∧ (badCommandBody a s).pending = s.pending := by
  unfold badCommandBody; simp

@[simp] theorem storeLatch_frame (w : Word) (s : State) :
    (storeLatch w s).powered = s.powered ∧ (storeLatch w s).rstAsserted = s.rstAsserted ∧
    (storeLatch w s).hpt = s.hpt ∧ (storeLatch w s).buf = s.buf ∧ (storeLatch w s).cpl = s.cpl ∧
    (storeLatch w s).banks = s.banks ∧ (storeLatch w s).refreshTimer = s.refreshTimer ∧
    (storeLatch w s).rmp = s.rmp ∧ (storeLatch w s).mig = s.mig ∧ (storeLatch w s).frt = s.frt ∧
    (storeLatch w s).ptl = s.ptl ∧ (storeLatch w s).rps = s.rps ∧ (storeLatch w s).mnt = s.mnt ∧
    (storeLatch w s).evt = s.evt ∧ (storeLatch w s).uer = s.uer ∧ (storeLatch w s).array = s.array ∧
    (storeLatch w s).readData = s.readData ∧ (storeLatch w s).lineReads = s.lineReads ∧
    (storeLatch w s).pending = s.pending := by
  unfold storeLatch; simp

@[simp] theorem storeArg_frame (w : Word) (s : State) :
    (storeArg w s).powered = s.powered ∧ (storeArg w s).rstAsserted = s.rstAsserted ∧
    (storeArg w s).hpt = s.hpt ∧ (storeArg w s).req = s.req ∧ (storeArg w s).buf = s.buf ∧
    (storeArg w s).cpl = s.cpl ∧ (storeArg w s).banks = s.banks ∧
    (storeArg w s).refreshTimer = s.refreshTimer ∧ (storeArg w s).rmp = s.rmp ∧
    (storeArg w s).mig = s.mig ∧ (storeArg w s).frt = s.frt ∧ (storeArg w s).ptl = s.ptl ∧
    (storeArg w s).rps = s.rps ∧ (storeArg w s).evt = s.evt ∧ (storeArg w s).uer = s.uer ∧
    (storeArg w s).array = s.array ∧ (storeArg w s).readData = s.readData ∧
    (storeArg w s).lineReads = s.lineReads ∧ (storeArg w s).pending = s.pending := by
  unfold storeArg; simp

@[simp] theorem storeBufSelect_frame (w : Word) (s : State) :
    (storeBufSelect w s).powered = s.powered ∧ (storeBufSelect w s).rstAsserted = s.rstAsserted ∧
    (storeBufSelect w s).hpt = s.hpt ∧ (storeBufSelect w s).req = s.req ∧
    (storeBufSelect w s).cpl = s.cpl ∧ (storeBufSelect w s).banks = s.banks ∧
    (storeBufSelect w s).refreshTimer = s.refreshTimer ∧ (storeBufSelect w s).rmp = s.rmp ∧
    (storeBufSelect w s).mig = s.mig ∧ (storeBufSelect w s).frt = s.frt ∧
    (storeBufSelect w s).ptl = s.ptl ∧ (storeBufSelect w s).rps = s.rps ∧
    (storeBufSelect w s).mnt = s.mnt ∧ (storeBufSelect w s).evt = s.evt ∧
    (storeBufSelect w s).uer = s.uer ∧ (storeBufSelect w s).array = s.array ∧
    (storeBufSelect w s).readData = s.readData ∧ (storeBufSelect w s).lineReads = s.lineReads ∧
    (storeBufSelect w s).pending = s.pending := by
  unfold storeBufSelect; simp

@[simp] theorem storeRmpSelect_frame (w : Word) (s : State) :
    (storeRmpSelect w s).powered = s.powered ∧ (storeRmpSelect w s).rstAsserted = s.rstAsserted ∧
    (storeRmpSelect w s).hpt = s.hpt ∧ (storeRmpSelect w s).req = s.req ∧
    (storeRmpSelect w s).buf = s.buf ∧ (storeRmpSelect w s).cpl = s.cpl ∧
    (storeRmpSelect w s).banks = s.banks ∧ (storeRmpSelect w s).refreshTimer = s.refreshTimer ∧
    (storeRmpSelect w s).mig = s.mig ∧ (storeRmpSelect w s).frt = s.frt ∧
    (storeRmpSelect w s).ptl = s.ptl ∧ (storeRmpSelect w s).rps = s.rps ∧
    (storeRmpSelect w s).mnt = s.mnt ∧ (storeRmpSelect w s).evt = s.evt ∧
    (storeRmpSelect w s).uer = s.uer ∧ (storeRmpSelect w s).array = s.array ∧
    (storeRmpSelect w s).readData = s.readData ∧ (storeRmpSelect w s).lineReads = s.lineReads ∧
    (storeRmpSelect w s).pending = s.pending := by
  unfold storeRmpSelect; simp

@[simp] theorem storeFrtSelect_frame (w : Word) (s : State) :
    (storeFrtSelect w s).powered = s.powered ∧ (storeFrtSelect w s).rstAsserted = s.rstAsserted ∧
    (storeFrtSelect w s).hpt = s.hpt ∧ (storeFrtSelect w s).req = s.req ∧
    (storeFrtSelect w s).buf = s.buf ∧ (storeFrtSelect w s).cpl = s.cpl ∧
    (storeFrtSelect w s).banks = s.banks ∧ (storeFrtSelect w s).refreshTimer = s.refreshTimer ∧
    (storeFrtSelect w s).rmp = s.rmp ∧ (storeFrtSelect w s).mig = s.mig ∧
    (storeFrtSelect w s).ptl = s.ptl ∧ (storeFrtSelect w s).rps = s.rps ∧
    (storeFrtSelect w s).mnt = s.mnt ∧ (storeFrtSelect w s).evt = s.evt ∧
    (storeFrtSelect w s).uer = s.uer ∧ (storeFrtSelect w s).array = s.array ∧
    (storeFrtSelect w s).readData = s.readData ∧ (storeFrtSelect w s).lineReads = s.lineReads ∧
    (storeFrtSelect w s).pending = s.pending := by
  unfold storeFrtSelect; simp

@[simp] theorem storeRpsSelect_frame (w : Word) (s : State) :
    (storeRpsSelect w s).powered = s.powered ∧ (storeRpsSelect w s).rstAsserted = s.rstAsserted ∧
    (storeRpsSelect w s).hpt = s.hpt ∧ (storeRpsSelect w s).req = s.req ∧
    (storeRpsSelect w s).buf = s.buf ∧ (storeRpsSelect w s).cpl = s.cpl ∧
    (storeRpsSelect w s).banks = s.banks ∧ (storeRpsSelect w s).refreshTimer = s.refreshTimer ∧
    (storeRpsSelect w s).rmp = s.rmp ∧ (storeRpsSelect w s).mig = s.mig ∧
    (storeRpsSelect w s).frt = s.frt ∧ (storeRpsSelect w s).ptl = s.ptl ∧
    (storeRpsSelect w s).mnt = s.mnt ∧ (storeRpsSelect w s).evt = s.evt ∧
    (storeRpsSelect w s).uer = s.uer ∧ (storeRpsSelect w s).array = s.array ∧
    (storeRpsSelect w s).readData = s.readData ∧ (storeRpsSelect w s).lineReads = s.lineReads ∧
    (storeRpsSelect w s).pending = s.pending := by
  unfold storeRpsSelect; simp

@[simp] theorem storeConfig_frame (w : Word) (s : State) :
    (storeConfig w s).powered = s.powered ∧ (storeConfig w s).rstAsserted = s.rstAsserted ∧
    (storeConfig w s).req = s.req ∧ (storeConfig w s).buf = s.buf ∧ (storeConfig w s).cpl = s.cpl ∧
    (storeConfig w s).banks = s.banks ∧ (storeConfig w s).refreshTimer = s.refreshTimer ∧
    (storeConfig w s).rmp = s.rmp ∧ (storeConfig w s).mig = s.mig ∧ (storeConfig w s).frt = s.frt ∧
    (storeConfig w s).ptl = s.ptl ∧ (storeConfig w s).rps = s.rps ∧ (storeConfig w s).mnt = s.mnt ∧
    (storeConfig w s).evt = s.evt ∧ (storeConfig w s).uer = s.uer ∧ (storeConfig w s).array = s.array ∧
    (storeConfig w s).readData = s.readData ∧ (storeConfig w s).lineReads = s.lineReads ∧
    (storeConfig w s).pending = s.pending := by
  unfold storeConfig; simp

@[simp] theorem storeInterval_frame (w : Word) (s : State) :
    (storeInterval w s).powered = s.powered ∧ (storeInterval w s).rstAsserted = s.rstAsserted ∧
    (storeInterval w s).hpt = s.hpt ∧ (storeInterval w s).req = s.req ∧ (storeInterval w s).buf = s.buf ∧
    (storeInterval w s).cpl = s.cpl ∧ (storeInterval w s).banks = s.banks ∧
    (storeInterval w s).refreshTimer = s.refreshTimer ∧ (storeInterval w s).rmp = s.rmp ∧
    (storeInterval w s).mig = s.mig ∧ (storeInterval w s).frt = s.frt ∧ (storeInterval w s).rps = s.rps ∧
    (storeInterval w s).mnt = s.mnt ∧ (storeInterval w s).evt = s.evt ∧ (storeInterval w s).uer = s.uer ∧
    (storeInterval w s).array = s.array ∧ (storeInterval w s).readData = s.readData ∧
    (storeInterval w s).lineReads = s.lineReads ∧ (storeInterval w s).pending = s.pending := by
  unfold storeInterval; simp

@[simp] theorem plainWrite_frame (o : BitVec 8) (w : Word) (s : State) :
    (plainWrite o w s).powered = s.powered ∧ (plainWrite o w s).rstAsserted = s.rstAsserted ∧
    (plainWrite o w s).hpt = s.hpt ∧ (plainWrite o w s).cpl = s.cpl ∧ (plainWrite o w s).banks = s.banks ∧
    (plainWrite o w s).refreshTimer = s.refreshTimer ∧ (plainWrite o w s).mig = s.mig ∧
    (plainWrite o w s).ptl = s.ptl ∧ (plainWrite o w s).evt = s.evt ∧ (plainWrite o w s).uer = s.uer ∧
    (plainWrite o w s).array = s.array ∧ (plainWrite o w s).readData = s.readData ∧
    (plainWrite o w s).lineReads = s.lineReads ∧ (plainWrite o w s).pending = s.pending := by
  unfold plainWrite; (repeat' split) <;> simp

@[simp] theorem readEntryA_frame (s : State) :
    (readEntryA s).powered = s.powered ∧ (readEntryA s).rstAsserted = s.rstAsserted ∧
    (readEntryA s).hpt = s.hpt ∧ (readEntryA s).req = s.req ∧ (readEntryA s).buf = s.buf ∧
    (readEntryA s).cpl = s.cpl ∧ (readEntryA s).banks = s.banks ∧
    (readEntryA s).refreshTimer = s.refreshTimer ∧ (readEntryA s).rmp = s.rmp ∧
    (readEntryA s).mig = s.mig ∧ (readEntryA s).ptl = s.ptl ∧ (readEntryA s).rps = s.rps ∧
    (readEntryA s).mnt = s.mnt ∧ (readEntryA s).evt = s.evt ∧ (readEntryA s).uer = s.uer ∧
    (readEntryA s).array = s.array ∧ (readEntryA s).lineReads = s.lineReads ∧
    (readEntryA s).pending = s.pending := by
  unfold readEntryA; simp

@[simp] theorem becomeReady_frame (s : State) :
    (becomeReady s).powered = s.powered ∧ (becomeReady s).rstAsserted = s.rstAsserted ∧
    (becomeReady s).req = s.req ∧ (becomeReady s).buf = s.buf ∧ (becomeReady s).cpl = s.cpl ∧
    (becomeReady s).banks = s.banks ∧ (becomeReady s).refreshTimer = s.refreshTimer ∧
    (becomeReady s).rmp = s.rmp ∧ (becomeReady s).mig = s.mig ∧ (becomeReady s).frt = s.frt ∧
    (becomeReady s).ptl = s.ptl ∧ (becomeReady s).rps = s.rps ∧ (becomeReady s).mnt = s.mnt ∧
    (becomeReady s).uer = s.uer ∧ (becomeReady s).array = s.array ∧ (becomeReady s).readData = s.readData ∧
    (becomeReady s).lineReads = s.lineReads ∧ (becomeReady s).pending = s.pending := by
  unfold becomeReady; simp

@[simp] theorem beginStart_frame (s : State) :
    (beginStart s).powered = s.powered ∧ (beginStart s).rstAsserted = s.rstAsserted ∧
    (beginStart s).req = s.req ∧ (beginStart s).buf = s.buf ∧ (beginStart s).cpl = s.cpl ∧
    (beginStart s).banks = s.banks ∧ (beginStart s).refreshTimer = s.refreshTimer ∧
    (beginStart s).mig = s.mig ∧ (beginStart s).frt = s.frt ∧ (beginStart s).ptl = s.ptl ∧
    (beginStart s).rps = s.rps ∧ (beginStart s).mnt = s.mnt ∧ (beginStart s).evt = s.evt ∧
    (beginStart s).uer = s.uer ∧ (beginStart s).array = s.array ∧ (beginStart s).readData = s.readData ∧
    (beginStart s).lineReads = s.lineReads ∧ (beginStart s).pending = s.pending := by
  unfold beginStart; simp

end Sys2Proof.Machine
end

