-- ==== Sys2Proof/Laws/Banks.lean ====
section
/-! SUPPORT. The section of a bank, the table of a bank and a line of the array after each update, and the
frame of a list of blocks. -/

namespace Sys2Proof.Machine

/-! ### A bank's section -/

@[simp] theorem State.bank_setBank_same (s : State) (b : Bank) (k : BankSection) :
    (s.setBank b k).bank b = k := by simp [State.bank, State.setBank]

theorem State.bank_setBank_ne (s : State) {b c : Bank} (k : BankSection) (h : c ≠ b) :
    (s.setBank b k).bank c = s.bank c := by
  have : b.val ≠ c.val := fun e => h (Fin.ext e.symm)
  simp [State.bank, State.setBank, this]

theorem State.bank_setBank (s : State) (b c : Bank) (k : BankSection) :
    (s.setBank b k).bank c = if c = b then k else s.bank c := by
  split
  · subst c; simp
  · exact s.bank_setBank_ne k (by assumption)

@[simp] theorem State.bank_mapBanks (s : State) (f : BankSection → BankSection) (b : Bank) :
    (s.mapBanks f).bank b = f (s.bank b) := by simp [State.bank, State.mapBanks]

/-- Two states with the same sections have the same section of each bank. -/
theorem State.bank_congr {s t : State} (h : t.banks = s.banks) (b : Bank) : t.bank b = s.bank b := by
  simp [State.bank, h]

/-- Sections that agree bank by bank are equal. -/
theorem State.banks_ext {s t : State} (h : ∀ b : Bank, t.bank b = s.bank b) : t.banks = s.banks := by
  apply Vector.ext
  intro i hi
  exact h ⟨i, hi⟩

/-! ### A bank's remap table -/

@[simp] theorem State.remap_setRemap_same (s : State) (b : Bank) (m : BankRemap) :
    (s.setRemap b m).remap b = m := by simp [State.remap, State.setRemap]

theorem State.remap_setRemap_ne (s : State) {b c : Bank} (m : BankRemap) (h : c ≠ b) :
    (s.setRemap b m).remap c = s.remap c := by
  have : b.val ≠ c.val := fun e => h (Fin.ext e.symm)
  simp [State.remap, State.setRemap, this]

theorem State.remap_setRemap (s : State) (b c : Bank) (m : BankRemap) :
    (s.setRemap b m).remap c = if c = b then m else s.remap c := by
  split
  · subst c; simp
  · exact s.remap_setRemap_ne m (by assumption)

/-- Two states with the same table have the same table of each bank. -/
theorem State.remap_congr {s t : State} (h : t.rmp = s.rmp) (b : Bank) : t.remap b = s.remap b := by
  simp [State.remap, h]

/-- Two states with the same array hold the same lines. -/
theorem State.cell_congr {s t : State} (h : t.array = s.array) (b : Bank) (r : PhysRow) (n : LineNo) :
    t.cell b r n = s.cell b r n := by simp [State.cell, h]

/-! ### Under the setters -/

@[simp] theorem State.bank_setHpt (s : State) (v : HostPort) (b : Bank) :
    (s.setHpt v).bank b = s.bank b := rfl
@[simp] theorem State.bank_setReq (s : State) (v : RequestQueue) (b : Bank) :
    (s.setReq v).bank b = s.bank b := rfl
@[simp] theorem State.bank_setBuf (s : State) (v : Buffers) (b : Bank) :
    (s.setBuf v).bank b = s.bank b := rfl
@[simp] theorem State.bank_setCpl (s : State) (v : List Completion) (b : Bank) :
    (s.setCpl v).bank b = s.bank b := rfl
@[simp] theorem State.bank_setRefreshTimer (s : State) (v : TimerState) (b : Bank) :
    (s.setRefreshTimer v).bank b = s.bank b := rfl
@[simp] theorem State.bank_setRmp (s : State) (v : RemapTable) (b : Bank) :
    (s.setRmp v).bank b = s.bank b := rfl
@[simp] theorem State.bank_setMig (s : State) (v : Engine) (b : Bank) :
    (s.setMig v).bank b = s.bank b := rfl
@[simp] theorem State.bank_setFrt (s : State) (v : FaultTable) (b : Bank) :
    (s.setFrt v).bank b = s.bank b := rfl
@[simp] theorem State.bank_setPtl (s : State) (v : Patrol) (b : Bank) :
    (s.setPtl v).bank b = s.bank b := rfl
@[simp] theorem State.bank_setRps (s : State) (v : RepairStore) (b : Bank) :
    (s.setRps v).bank b = s.bank b := rfl
@[simp] theorem State.bank_setMnt (s : State) (v : Maintenance) (b : Bank) :
    (s.setMnt v).bank b = s.bank b := rfl
@[simp] theorem State.bank_setEvt (s : State) (v : EventUnit) (b : Bank) :
    (s.setEvt v).bank b = s.bank b := rfl
@[simp] theorem State.bank_setUer (s : State) (v : ReportQueue) (b : Bank) :
    (s.setUer v).bank b = s.bank b := rfl
@[simp] theorem State.bank_setArray (s : State) (v : Memory) (b : Bank) :
    (s.setArray v).bank b = s.bank b := rfl
@[simp] theorem State.bank_setReadData (s : State) (v : Word) (b : Bank) :
    (s.setReadData v).bank b = s.bank b := rfl
@[simp] theorem State.bank_setLineReads (s : State) (v : Nat) (b : Bank) :
    (s.setLineReads v).bank b = s.bank b := rfl
@[simp] theorem State.remap_setHpt (s : State) (v : HostPort) (b : Bank) :
    (s.setHpt v).remap b = s.remap b := rfl
@[simp] theorem State.remap_setReq (s : State) (v : RequestQueue) (b : Bank) :
    (s.setReq v).remap b = s.remap b := rfl
@[simp] theorem State.remap_setBuf (s : State) (v : Buffers) (b : Bank) :
    (s.setBuf v).remap b = s.remap b := rfl
@[simp] theorem State.remap_setCpl (s : State) (v : List Completion) (b : Bank) :
    (s.setCpl v).remap b = s.remap b := rfl
@[simp] theorem State.remap_setRefreshTimer (s : State) (v : TimerState) (b : Bank) :
    (s.setRefreshTimer v).remap b = s.remap b := rfl
@[simp] theorem State.remap_setMig (s : State) (v : Engine) (b : Bank) :
    (s.setMig v).remap b = s.remap b := rfl
@[simp] theorem State.remap_setFrt (s : State) (v : FaultTable) (b : Bank) :
    (s.setFrt v).remap b = s.remap b := rfl
@[simp] theorem State.remap_setPtl (s : State) (v : Patrol) (b : Bank) :
    (s.setPtl v).remap b = s.remap b := rfl
@[simp] theorem State.remap_setRps (s : State) (v : RepairStore) (b : Bank) :
    (s.setRps v).remap b = s.remap b := rfl
@[simp] theorem State.remap_setMnt (s : State) (v : Maintenance) (b : Bank) :
    (s.setMnt v).remap b = s.remap b := rfl
@[simp] theorem State.remap_setEvt (s : State) (v : EventUnit) (b : Bank) :
    (s.setEvt v).remap b = s.remap b := rfl
@[simp] theorem State.remap_setUer (s : State) (v : ReportQueue) (b : Bank) :
    (s.setUer v).remap b = s.remap b := rfl
@[simp] theorem State.remap_setArray (s : State) (v : Memory) (b : Bank) :
    (s.setArray v).remap b = s.remap b := rfl
@[simp] theorem State.remap_setReadData (s : State) (v : Word) (b : Bank) :
    (s.setReadData v).remap b = s.remap b := rfl
@[simp] theorem State.remap_setLineReads (s : State) (v : Nat) (b : Bank) :
    (s.setLineReads v).remap b = s.remap b := rfl
@[simp] theorem State.cell_setHpt (s : State) (v : HostPort) (b : Bank) (r : PhysRow) (n : LineNo) :
    (s.setHpt v).cell b r n = s.cell b r n := rfl
@[simp] theorem State.cell_setReq (s : State) (v : RequestQueue) (b : Bank) (r : PhysRow) (n : LineNo) :
    (s.setReq v).cell b r n = s.cell b r n := rfl
@[simp] theorem State.cell_setBuf (s : State) (v : Buffers) (b : Bank) (r : PhysRow) (n : LineNo) :
    (s.setBuf v).cell b r n = s.cell b r n := rfl
@[simp] theorem State.cell_setCpl (s : State) (v : List Completion) (b : Bank) (r : PhysRow) (n : LineNo) :
    (s.setCpl v).cell b r n = s.cell b r n := rfl
@[simp] theorem State.cell_setRefreshTimer (s : State) (v : TimerState) (b : Bank) (r : PhysRow) (n : LineNo) :
    (s.setRefreshTimer v).cell b r n = s.cell b r n := rfl
@[simp] theorem State.cell_setRmp (s : State) (v : RemapTable) (b : Bank) (r : PhysRow) (n : LineNo) :
    (s.setRmp v).cell b r n = s.cell b r n := rfl
@[simp] theorem State.cell_setMig (s : State) (v : Engine) (b : Bank) (r : PhysRow) (n : LineNo) :
    (s.setMig v).cell b r n = s.cell b r n := rfl
@[simp] theorem State.cell_setFrt (s : State) (v : FaultTable) (b : Bank) (r : PhysRow) (n : LineNo) :
    (s.setFrt v).cell b r n = s.cell b r n := rfl
@[simp] theorem State.cell_setPtl (s : State) (v : Patrol) (b : Bank) (r : PhysRow) (n : LineNo) :
    (s.setPtl v).cell b r n = s.cell b r n := rfl
@[simp] theorem State.cell_setRps (s : State) (v : RepairStore) (b : Bank) (r : PhysRow) (n : LineNo) :
    (s.setRps v).cell b r n = s.cell b r n := rfl
@[simp] theorem State.cell_setMnt (s : State) (v : Maintenance) (b : Bank) (r : PhysRow) (n : LineNo) :
    (s.setMnt v).cell b r n = s.cell b r n := rfl
@[simp] theorem State.cell_setEvt (s : State) (v : EventUnit) (b : Bank) (r : PhysRow) (n : LineNo) :
    (s.setEvt v).cell b r n = s.cell b r n := rfl
@[simp] theorem State.cell_setUer (s : State) (v : ReportQueue) (b : Bank) (r : PhysRow) (n : LineNo) :
    (s.setUer v).cell b r n = s.cell b r n := rfl
@[simp] theorem State.cell_setReadData (s : State) (v : Word) (b : Bank) (r : PhysRow) (n : LineNo) :
    (s.setReadData v).cell b r n = s.cell b r n := rfl
@[simp] theorem State.cell_setLineReads (s : State) (v : Nat) (b : Bank) (r : PhysRow) (n : LineNo) :
    (s.setLineReads v).cell b r n = s.cell b r n := rfl
@[simp] theorem State.remap_setBank (s : State) (b c : Bank) (k : BankSection) :
    (s.setBank b k).remap c = s.remap c := rfl
@[simp] theorem State.bank_setRemap (s : State) (b c : Bank) (m : BankRemap) :
    (s.setRemap b m).bank c = s.bank c := rfl
@[simp] theorem State.cell_setBank (s : State) (b c : Bank) (k : BankSection) (r : PhysRow) (n : LineNo) :
    (s.setBank b k).cell c r n = s.cell c r n := rfl
@[simp] theorem State.cell_setRemap (s : State) (b c : Bank) (m : BankRemap) (r : PhysRow) (n : LineNo) :
    (s.setRemap b m).cell c r n = s.cell c r n := rfl
@[simp] theorem State.bank_latch (s : State) (e : Event) (b : Bank) : (s.latch e).bank b = s.bank b := rfl
@[simp] theorem State.remap_latch (s : State) (e : Event) (b : Bank) : (s.latch e).remap b = s.remap b := rfl
@[simp] theorem State.bank_countRead (s : State) (b : Bank) : s.countRead.bank b = s.bank b := rfl
@[simp] theorem State.remap_countRead (s : State) (b : Bank) : s.countRead.remap b = s.remap b := rfl
@[simp] theorem State.cell_countRead (s : State) (b : Bank) (r : PhysRow) (n : LineNo) :
    s.countRead.cell b r n = s.cell b r n := rfl

/-! ### Frames over lists of blocks -/

/-- A frame, block by block. -/
theorem keepsAllBut_iff (changed : List Block) (s t : State) :
    keepsAllBut changed s t ↔
      (.power ∈ changed ∨ t.powered = s.powered) ∧ (.rst ∈ changed ∨ t.rstAsserted = s.rstAsserted) ∧
      (.hpt ∈ changed ∨ t.hpt = s.hpt) ∧ (.req ∈ changed ∨ t.req = s.req) ∧
      (.buf ∈ changed ∨ t.buf = s.buf) ∧ (.cpl ∈ changed ∨ t.cpl = s.cpl) ∧
      (.bsq ∈ changed ∨ t.banks = s.banks) ∧ (.refreshTimer ∈ changed ∨ t.refreshTimer = s.refreshTimer) ∧
      (.rmp ∈ changed ∨ t.rmp = s.rmp) ∧ (.mig ∈ changed ∨ t.mig = s.mig) ∧
      (.frt ∈ changed ∨ t.frt = s.frt) ∧ (.ptl ∈ changed ∨ t.ptl = s.ptl) ∧
      (.rps ∈ changed ∨ t.rps = s.rps) ∧ (.mnt ∈ changed ∨ t.mnt = s.mnt) ∧
      (.evt ∈ changed ∨ t.evt = s.evt) ∧ (.uer ∈ changed ∨ t.uer = s.uer) ∧
      (.array ∈ changed ∨ t.array = s.array) ∧ (.readData ∈ changed ∨ t.readData = s.readData) ∧
      (.lineReads ∈ changed ∨ t.lineReads = s.lineReads) ∧ (.pending ∈ changed ∨ t.pending = s.pending) := by
  constructor
  · intro h
    simp only [Decidable.or_iff_not_imp_left]
    exact ⟨h .power, h .rst, h .hpt, h .req, h .buf, h .cpl, h .bsq, h .refreshTimer, h .rmp, h .mig,
      h .frt, h .ptl, h .rps, h .mnt, h .evt, h .uer, h .array, h .readData, h .lineReads, h .pending⟩
  · intro h k hk
    cases k <;> simp_all [Block.same]

theorem keepsAllBut_refl (changed : List Block) (s : State) : keepsAllBut changed s s := by
  simp [keepsAllBut_iff]

theorem keepsAllBut_trans {changed : List Block} {s t u : State} (h : keepsAllBut changed s t)
    (g : keepsAllBut changed t u) : keepsAllBut changed s u := by
  intro k hk
  have a := h k hk
  have b := g k hk
  cases k <;> exact Eq.trans b a

theorem keepsAllBut_mono {changed more : List Block} {s t : State} (h : keepsAllBut changed s t)
    (sub : ∀ k ∈ changed, k ∈ more) : keepsAllBut more s t := fun k hk => h k fun m => hk (sub k m)

end Sys2Proof.Machine
end

