-- ==== Sys2Proof/Laws/Views.lean ====
section
/-! SUPPORT. For each shared operation that leaves the banks, the remap table or the array as they stand: the
section of a bank, the table of a bank, a line of the array, and the window, afterwards. -/

namespace Sys2Proof.Machine

@[simp] theorem State.writeCell_bank (s : State) (b : Bank) (r : PhysRow) (n : LineNo) (c : LineCell) (x : Bank) :
    (s.writeCell b r n c).bank x = s.bank x :=
  State.bank_congr (by simp) x
@[simp] theorem State.writeCell_remap (s : State) (b : Bank) (r : PhysRow) (n : LineNo) (c : LineCell) (x : Bank) :
    (s.writeCell b r n c).remap x = s.remap x :=
  State.remap_congr (by simp) x
@[simp] theorem State.writeData_bank (s : State) (b : Bank) (r : PhysRow) (n : LineNo) (w : LineWords) (x : Bank) :
    (s.writeData b r n w).bank x = s.bank x :=
  State.bank_congr (by simp) x
@[simp] theorem State.writeData_remap (s : State) (b : Bank) (r : PhysRow) (n : LineNo) (w : LineWords) (x : Bank) :
    (s.writeData b r n w).remap x = s.remap x :=
  State.remap_congr (by simp) x
@[simp] theorem State.writePoison_bank (s : State) (b : Bank) (r : PhysRow) (n : LineNo) (x : Bank) :
    (s.writePoison b r n).bank x = s.bank x :=
  State.bank_congr (by simp) x
@[simp] theorem State.writePoison_remap (s : State) (b : Bank) (r : PhysRow) (n : LineNo) (x : Bank) :
    (s.writePoison b r n).remap x = s.remap x :=
  State.remap_congr (by simp) x
@[simp] theorem State.writeDataRows_bank (s : State) (b : Bank) (rows : Rows) (n : LineNo) (w : LineWords) (x : Bank) :
    (s.writeDataRows b rows n w).bank x = s.bank x :=
  State.bank_congr (by simp) x
@[simp] theorem State.writeDataRows_remap (s : State) (b : Bank) (rows : Rows) (n : LineNo) (w : LineWords) (x : Bank) :
    (s.writeDataRows b rows n w).remap x = s.remap x :=
  State.remap_congr (by simp) x
@[simp] theorem State.poisonRows_bank (s : State) (b : Bank) (rows : Rows) (n : LineNo) (x : Bank) :
    (s.poisonRows b rows n).bank x = s.bank x :=
  State.bank_congr (by simp) x
@[simp] theorem State.poisonRows_remap (s : State) (b : Bank) (rows : Rows) (n : LineNo) (x : Bank) :
    (s.poisonRows b rows n).remap x = s.remap x :=
  State.remap_congr (by simp) x
@[simp] theorem State.strike_bank (s : State) (b : Bank) (r : PhysRow) (n : LineNo) (bits : List BitPos) (x : Bank) :
    (s.strike b r n bits).bank x = s.bank x :=
  State.bank_congr (by simp) x
@[simp] theorem State.strike_remap (s : State) (b : Bank) (r : PhysRow) (n : LineNo) (bits : List BitPos) (x : Bank) :
    (s.strike b r n bits).remap x = s.remap x :=
  State.remap_congr (by simp) x
@[simp] theorem acknowledge_bank (w : Word) (s : State) (x : Bank) :
    (acknowledge w s).bank x = s.bank x :=
  State.bank_congr (by simp) x
@[simp] theorem acknowledge_remap (w : Word) (s : State) (x : Bank) :
    (acknowledge w s).remap x = s.remap x :=
  State.remap_congr (by simp) x
@[simp] theorem acknowledge_cell (w : Word) (s : State) (x : Bank) (y : PhysRow) (z : LineNo) :
    (acknowledge w s).cell x y z = s.cell x y z :=
  State.cell_congr (by simp) x y z
@[simp] theorem storeMask_bank (w : Word) (s : State) (x : Bank) :
    (storeMask w s).bank x = s.bank x :=
  State.bank_congr (by simp) x
@[simp] theorem storeMask_remap (w : Word) (s : State) (x : Bank) :
    (storeMask w s).remap x = s.remap x :=
  State.remap_congr (by simp) x
@[simp] theorem storeMask_cell (w : Word) (s : State) (x : Bank) (y : PhysRow) (z : LineNo) :
    (storeMask w s).cell x y z = s.cell x y z :=
  State.cell_congr (by simp) x y z
@[simp] theorem completeCommand_bank (r : MntResult) (s : State) (x : Bank) :
    (completeCommand r s).bank x = s.bank x :=
  State.bank_congr (by simp) x
@[simp] theorem completeCommand_remap (r : MntResult) (s : State) (x : Bank) :
    (completeCommand r s).remap x = s.remap x :=
  State.remap_congr (by simp) x
@[simp] theorem completeCommand_cell (r : MntResult) (s : State) (x : Bank) (y : PhysRow) (z : LineNo) :
    (completeCommand r s).cell x y z = s.cell x y z :=
  State.cell_congr (by simp) x y z
@[simp] theorem completeBurn_bank (r : MntResult) (i : Fin 48) (s : State) (x : Bank) :
    (completeBurn r i s).bank x = s.bank x :=
  State.bank_congr (by simp) x
@[simp] theorem completeBurn_remap (r : MntResult) (i : Fin 48) (s : State) (x : Bank) :
    (completeBurn r i s).remap x = s.remap x :=
  State.remap_congr (by simp) x
@[simp] theorem completeBurn_cell (r : MntResult) (i : Fin 48) (s : State) (x : Bank) (y : PhysRow) (z : LineNo) :
    (completeBurn r i s).cell x y z = s.cell x y z :=
  State.cell_congr (by simp) x y z
@[simp] theorem beginCommand_bank (c : MntCommand) (s : State) (x : Bank) :
    (beginCommand c s).bank x = s.bank x :=
  State.bank_congr (by simp) x
@[simp] theorem beginCommand_remap (c : MntCommand) (s : State) (x : Bank) :
    (beginCommand c s).remap x = s.remap x :=
  State.remap_congr (by simp) x
@[simp] theorem beginCommand_cell (c : MntCommand) (s : State) (x : Bank) (y : PhysRow) (z : LineNo) :
    (beginCommand c s).cell x y z = s.cell x y z :=
  State.cell_congr (by simp) x y z
@[simp] theorem loadSlot_bank (s : State) (v : StoreSlot) (x : Bank) :
    (loadSlot s v).bank x = s.bank x :=
  State.bank_congr (by simp) x
@[simp] theorem loadSlot_cell (s : State) (v : StoreSlot) (x : Bank) (y : PhysRow) (z : LineNo) :
    (loadSlot s v).cell x y z = s.cell x y z :=
  State.cell_congr (by simp) x y z
@[simp] theorem loadStore_bank (s : State) (x : Bank) :
    (loadStore s).bank x = s.bank x :=
  State.bank_congr (by simp) x
@[simp] theorem loadStore_cell (s : State) (x : Bank) (y : PhysRow) (z : LineNo) :
    (loadStore s).cell x y z = s.cell x y z :=
  State.cell_congr (by simp) x y z
@[simp] theorem clearRemap_bank (s : State) (x : Bank) :
    (clearRemap s).bank x = s.bank x :=
  State.bank_congr (by simp) x
@[simp] theorem clearRemap_cell (s : State) (x : Bank) (y : PhysRow) (z : LineNo) :
    (clearRemap s).cell x y z = s.cell x y z :=
  State.cell_congr (by simp) x y z
@[simp] theorem resetRemap_bank (s : State) (x : Bank) :
    (resetRemap s).bank x = s.bank x :=
  State.bank_congr (by simp) x
@[simp] theorem resetRemap_cell (s : State) (x : Bank) (y : PhysRow) (z : LineNo) :
    (resetRemap s).cell x y z = s.cell x y z :=
  State.cell_congr (by simp) x y z
@[simp] theorem receiveNotice_bank (n : Notice) (s : State) (x : Bank) :
    (receiveNotice n s).bank x = s.bank x :=
  State.bank_congr (by simp) x
@[simp] theorem receiveNotice_remap (n : Notice) (s : State) (x : Bank) :
    (receiveNotice n s).remap x = s.remap x :=
  State.remap_congr (by simp) x
@[simp] theorem receiveNotice_cell (n : Notice) (s : State) (x : Bank) (y : PhysRow) (z : LineNo) :
    (receiveNotice n s).cell x y z = s.cell x y z :=
  State.cell_congr (by simp) x y z
@[simp] theorem receiveReport_bank (r : Report) (s : State) (x : Bank) :
    (receiveReport r s).bank x = s.bank x :=
  State.bank_congr (by simp) x
@[simp] theorem receiveReport_remap (r : Report) (s : State) (x : Bank) :
    (receiveReport r s).remap x = s.remap x :=
  State.remap_congr (by simp) x
@[simp] theorem receiveReport_cell (r : Report) (s : State) (x : Bank) (y : PhysRow) (z : LineNo) :
    (receiveReport r s).cell x y z = s.cell x y z :=
  State.cell_congr (by simp) x y z
@[simp] theorem sendNotice_bank (n : Notice) (s : State) (x : Bank) :
    (sendNotice n s).bank x = s.bank x :=
  State.bank_congr (by simp) x
@[simp] theorem sendNotice_remap (n : Notice) (s : State) (x : Bank) :
    (sendNotice n s).remap x = s.remap x :=
  State.remap_congr (by simp) x
@[simp] theorem sendNotice_cell (n : Notice) (s : State) (x : Bank) (y : PhysRow) (z : LineNo) :
    (sendNotice n s).cell x y z = s.cell x y z :=
  State.cell_congr (by simp) x y z
@[simp] theorem sendNotice?_bank (n : Option Notice) (s : State) (x : Bank) :
    (sendNotice? n s).bank x = s.bank x :=
  State.bank_congr (by simp) x
@[simp] theorem sendNotice?_remap (n : Option Notice) (s : State) (x : Bank) :
    (sendNotice? n s).remap x = s.remap x :=
  State.remap_congr (by simp) x
@[simp] theorem sendNotice?_cell (n : Option Notice) (s : State) (x : Bank) (y : PhysRow) (z : LineNo) :
    (sendNotice? n s).cell x y z = s.cell x y z :=
  State.cell_congr (by simp) x y z
@[simp] theorem popReport_bank (s : State) (x : Bank) :
    (popReport s).bank x = s.bank x :=
  State.bank_congr (by simp) x
@[simp] theorem popReport_remap (s : State) (x : Bank) :
    (popReport s).remap x = s.remap x :=
  State.remap_congr (by simp) x
@[simp] theorem popReport_cell (s : State) (x : Bank) (y : PhysRow) (z : LineNo) :
    (popReport s).cell x y z = s.cell x y z :=
  State.cell_congr (by simp) x y z
@[simp] theorem passEnd_bank (s : State) (x : Bank) :
    (passEnd s).bank x = s.bank x :=
  State.bank_congr (by simp) x
@[simp] theorem passEnd_remap (s : State) (x : Bank) :
    (passEnd s).remap x = s.remap x :=
  State.remap_congr (by simp) x
@[simp] theorem passEnd_cell (s : State) (x : Bank) (y : PhysRow) (z : LineNo) :
    (passEnd s).cell x y z = s.cell x y z :=
  State.cell_congr (by simp) x y z
@[simp] theorem advanceCursor_bank (p : Position) (s : State) (x : Bank) :
    (advanceCursor p s).bank x = s.bank x :=
  State.bank_congr (by simp) x
@[simp] theorem advanceCursor_remap (p : Position) (s : State) (x : Bank) :
    (advanceCursor p s).remap x = s.remap x :=
  State.remap_congr (by simp) x
@[simp] theorem advanceCursor_cell (p : Position) (s : State) (x : Bank) (y : PhysRow) (z : LineNo) :
    (advanceCursor p s).cell x y z = s.cell x y z :=
  State.cell_congr (by simp) x y z
@[simp] theorem forgetStep_bank (s : State) (x : Bank) :
    (forgetStep s).bank x = s.bank x :=
  State.bank_congr (by simp) x
@[simp] theorem forgetStep_remap (s : State) (x : Bank) :
    (forgetStep s).remap x = s.remap x :=
  State.remap_congr (by simp) x
@[simp] theorem forgetStep_cell (s : State) (x : Bank) (y : PhysRow) (z : LineNo) :
    (forgetStep s).cell x y z = s.cell x y z :=
  State.cell_congr (by simp) x y z
@[simp] theorem stepEnds_bank (s : State) (x : Bank) :
    (stepEnds s).bank x = s.bank x :=
  State.bank_congr (by simp) x
@[simp] theorem stepEnds_remap (s : State) (x : Bank) :
    (stepEnds s).remap x = s.remap x :=
  State.remap_congr (by simp) x
@[simp] theorem stepEnds_cell (s : State) (x : Bank) (y : PhysRow) (z : LineNo) :
    (stepEnds s).cell x y z = s.cell x y z :=
  State.cell_congr (by simp) x y z
@[simp] theorem withdrawStepAt_remap (p : Position) (s : State) (x : Bank) :
    (withdrawStepAt p s).remap x = s.remap x :=
  State.remap_congr (by simp) x
@[simp] theorem withdrawStepAt_cell (p : Position) (s : State) (x : Bank) (y : PhysRow) (z : LineNo) :
    (withdrawStepAt p s).cell x y z = s.cell x y z :=
  State.cell_congr (by simp) x y z
@[simp] theorem withdrawStep_remap (s : State) (x : Bank) :
    (withdrawStep s).remap x = s.remap x :=
  State.remap_congr (by simp) x
@[simp] theorem withdrawStep_cell (s : State) (x : Bank) (y : PhysRow) (z : LineNo) :
    (withdrawStep s).cell x y z = s.cell x y z :=
  State.cell_congr (by simp) x y z
@[simp] theorem withdrawStepOf_remap (b : Bank) (s : State) (x : Bank) :
    (withdrawStepOf b s).remap x = s.remap x :=
  State.remap_congr (by simp) x
@[simp] theorem withdrawStepOf_cell (b : Bank) (s : State) (x : Bank) (y : PhysRow) (z : LineNo) :
    (withdrawStepOf b s).cell x y z = s.cell x y z :=
  State.cell_congr (by simp) x y z
@[simp] theorem restartCursor_remap (s : State) (x : Bank) :
    (restartCursor s).remap x = s.remap x :=
  State.remap_congr (by simp) x
@[simp] theorem restartCursor_cell (s : State) (x : Bank) (y : PhysRow) (z : LineNo) :
    (restartCursor s).cell x y z = s.cell x y z :=
  State.cell_congr (by simp) x y z
@[simp] theorem setEngine_bank (v : EngineState) (s : State) (x : Bank) :
    (setEngine v s).bank x = s.bank x :=
  State.bank_congr (by simp) x
@[simp] theorem setEngine_remap (v : EngineState) (s : State) (x : Bank) :
    (setEngine v s).remap x = s.remap x :=
  State.remap_congr (by simp) x
@[simp] theorem setEngine_cell (v : EngineState) (s : State) (x : Bank) (y : PhysRow) (z : LineNo) :
    (setEngine v s).cell x y z = s.cell x y z :=
  State.cell_congr (by simp) x y z
@[simp] theorem noteExhausted_bank (b : Bank) (s : State) (x : Bank) :
    (noteExhausted b s).bank x = s.bank x :=
  State.bank_congr (by simp) x
@[simp] theorem noteExhausted_remap (b : Bank) (s : State) (x : Bank) :
    (noteExhausted b s).remap x = s.remap x :=
  State.remap_congr (by simp) x
@[simp] theorem noteExhausted_cell (b : Bank) (s : State) (x : Bank) (y : PhysRow) (z : LineNo) :
    (noteExhausted b s).cell x y z = s.cell x y z :=
  State.cell_congr (by simp) x y z
@[simp] theorem startOn_bank (b : Bank) (l : LogicalRow) (t : SpareIdx) (s : State) (x : Bank) :
    (startOn b l t s).bank x = s.bank x :=
  State.bank_congr (by simp) x
@[simp] theorem startOn_cell (b : Bank) (l : LogicalRow) (t : SpareIdx) (s : State) (x : Bank) (y : PhysRow) (z : LineNo) :
    (startOn b l t s).cell x y z = s.cell x y z :=
  State.cell_congr (by simp) x y z
@[simp] theorem startMigration_bank (b : Bank) (l : LogicalRow) (s : State) (x : Bank) :
    (startMigration b l s).bank x = s.bank x :=
  State.bank_congr (by simp) x
@[simp] theorem startMigration_cell (b : Bank) (l : LogicalRow) (s : State) (x : Bank) (y : PhysRow) (z : LineNo) :
    (startMigration b l s).cell x y z = s.cell x y z :=
  State.cell_congr (by simp) x y z
@[simp] theorem autoSelect_bank (s : State) (x : Bank) :
    (autoSelect s).bank x = s.bank x :=
  State.bank_congr (by simp) x
@[simp] theorem autoSelect_cell (s : State) (x : Bank) (y : PhysRow) (z : LineNo) :
    (autoSelect s).cell x y z = s.cell x y z :=
  State.cell_congr (by simp) x y z
@[simp] theorem withdrawCopy_remap (b : Bank) (s : State) (x : Bank) :
    (withdrawCopy b s).remap x = s.remap x :=
  State.remap_congr (by simp) x
@[simp] theorem withdrawCopy_cell (b : Bank) (s : State) (x : Bank) (y : PhysRow) (z : LineNo) :
    (withdrawCopy b s).cell x y z = s.cell x y z :=
  State.cell_congr (by simp) x y z
@[simp] theorem park_remap (s : State) (x : Bank) :
    (park s).remap x = s.remap x :=
  State.remap_congr (by simp) x
@[simp] theorem park_cell (s : State) (x : Bank) (y : PhysRow) (z : LineNo) :
    (park s).cell x y z = s.cell x y z :=
  State.cell_congr (by simp) x y z
@[simp] theorem unpark_bank (s : State) (x : Bank) :
    (unpark s).bank x = s.bank x :=
  State.bank_congr (by simp) x
@[simp] theorem unpark_remap (s : State) (x : Bank) :
    (unpark s).remap x = s.remap x :=
  State.remap_congr (by simp) x
@[simp] theorem unpark_cell (s : State) (x : Bank) (y : PhysRow) (z : LineNo) :
    (unpark s).cell x y z = s.cell x y z :=
  State.cell_congr (by simp) x y z
@[simp] theorem endMigration_bank (v : LastMigration) (s : State) (x : Bank) :
    (endMigration v s).bank x = s.bank x :=
  State.bank_congr (by simp) x
@[simp] theorem endMigration_remap (v : LastMigration) (s : State) (x : Bank) :
    (endMigration v s).remap x = s.remap x :=
  State.remap_congr (by simp) x
@[simp] theorem endMigration_cell (v : LastMigration) (s : State) (x : Bank) (y : PhysRow) (z : LineNo) :
    (endMigration v s).cell x y z = s.cell x y z :=
  State.cell_congr (by simp) x y z
@[simp] theorem commitMigration_bank (b : Bank) (l : LogicalRow) (e : RemapEntry) (s : State) (x : Bank) :
    (commitMigration b l e s).bank x = s.bank x :=
  State.bank_congr (by simp) x
@[simp] theorem commitMigration_cell (b : Bank) (l : LogicalRow) (e : RemapEntry) (s : State) (x : Bank) (y : PhysRow) (z : LineNo) :
    (commitMigration b l e s).cell x y z = s.cell x y z :=
  State.cell_congr (by simp) x y z
@[simp] theorem failMigration_bank (b : Bank) (l : LogicalRow) (e : RemapEntry) (s : State) (x : Bank) :
    (failMigration b l e s).bank x = s.bank x :=
  State.bank_congr (by simp) x
@[simp] theorem failMigration_cell (b : Bank) (l : LogicalRow) (e : RemapEntry) (s : State) (x : Bank) (y : PhysRow) (z : LineNo) :
    (failMigration b l e s).cell x y z = s.cell x y z :=
  State.cell_congr (by simp) x y z
@[simp] theorem applyAbort_bank (b : Bank) (l : LogicalRow) (s : State) (x : Bank) :
    (applyAbort b l s).bank x = s.bank x :=
  State.bank_congr (by simp) x
@[simp] theorem applyAbort_cell (b : Bank) (l : LogicalRow) (s : State) (x : Bank) (y : PhysRow) (z : LineNo) :
    (applyAbort b l s).cell x y z = s.cell x y z :=
  State.cell_congr (by simp) x y z
@[simp] theorem afterCopy_bank (p : Bool) (b : Bank) (l : LogicalRow) (s : State) (x : Bank) :
    (afterCopy p b l s).bank x = s.bank x :=
  State.bank_congr (by simp) x
@[simp] theorem afterCopy_remap (p : Bool) (b : Bank) (l : LogicalRow) (s : State) (x : Bank) :
    (afterCopy p b l s).remap x = s.remap x :=
  State.remap_congr (by simp) x
@[simp] theorem afterCopy_cell (p : Bool) (b : Bank) (l : LogicalRow) (s : State) (x : Bank) (y : PhysRow) (z : LineNo) :
    (afterCopy p b l s).cell x y z = s.cell x y z :=
  State.cell_congr (by simp) x y z
@[simp] theorem restartMigration_bank (p : Bool) (b : Bank) (l : LogicalRow) (e : RemapEntry) (t : SpareIdx) (s : State) (x : Bank) :
    (restartMigration p b l e t s).bank x = s.bank x :=
  State.bank_congr (by simp) x
@[simp] theorem restartMigration_cell (p : Bool) (b : Bank) (l : LogicalRow) (e : RemapEntry) (t : SpareIdx) (s : State) (x : Bank) (y : PhysRow) (z : LineNo) :
    (restartMigration p b l e t s).cell x y z = s.cell x y z :=
  State.cell_congr (by simp) x y z
@[simp] theorem copied_bank (p : Bool) (b : Bank) (l : LogicalRow) (e : RemapEntry) (n : LineNo) (s : State) (x : Bank) :
    (copied p b l e n s).bank x = s.bank x :=
  State.bank_congr (by simp) x
@[simp] theorem copied_cell (p : Bool) (b : Bank) (l : LogicalRow) (e : RemapEntry) (n : LineNo) (s : State) (x : Bank) (y : PhysRow) (z : LineNo) :
    (copied p b l e n s).cell x y z = s.cell x y z :=
  State.cell_congr (by simp) x y z
@[simp] theorem verifyFailed_bank (p : Bool) (b : Bank) (l : LogicalRow) (e : RemapEntry) (s : State) (x : Bank) :
    (verifyFailed p b l e s).bank x = s.bank x :=
  State.bank_congr (by simp) x
@[simp] theorem verifyFailed_cell (p : Bool) (b : Bank) (l : LogicalRow) (e : RemapEntry) (s : State) (x : Bank) (y : PhysRow) (z : LineNo) :
    (verifyFailed p b l e s).cell x y z = s.cell x y z :=
  State.cell_congr (by simp) x y z
@[simp] theorem copyEnds_bank (n : LineNo) (v : Bool) (s : State) (x : Bank) :
    (copyEnds n v s).bank x = s.bank x :=
  State.bank_congr (by simp) x
@[simp] theorem copyEnds_cell (n : LineNo) (v : Bool) (s : State) (x : Bank) (y : PhysRow) (z : LineNo) :
    (copyEnds n v s).cell x y z = s.cell x y z :=
  State.cell_congr (by simp) x y z
@[simp] theorem finishClear_remap (b : Bank) (s : State) (x : Bank) :
    (finishClear b s).remap x = s.remap x :=
  State.remap_congr (by simp) x
@[simp] theorem finishClear_cell (b : Bank) (s : State) (x : Bank) (y : PhysRow) (z : LineNo) :
    (finishClear b s).cell x y z = s.cell x y z :=
  State.cell_congr (by simp) x y z
@[simp] theorem clearLineEnds_remap (b : Bank) (p : RowLine) (s : State) (x : Bank) :
    (clearLineEnds b p s).remap x = s.remap x :=
  State.remap_congr (by simp) x
@[simp] theorem clearLineEnds_cell (b : Bank) (p : RowLine) (s : State) (x : Bank) (y : PhysRow) (z : LineNo) :
    (clearLineEnds b p s).cell x y z = s.cell x y z :=
  State.cell_congr (by simp) x y z
@[simp] theorem grantHost_remap (b : Bank) (q : Request) (s : State) (x : Bank) :
    (grantHost b q s).remap x = s.remap x :=
  State.remap_congr (by simp) x
@[simp] theorem grantHost_cell (b : Bank) (q : Request) (s : State) (x : Bank) (y : PhysRow) (z : LineNo) :
    (grantHost b q s).cell x y z = s.cell x y z :=
  State.cell_congr (by simp) x y z
@[simp] theorem runCopy_bank (s : State) (x : Bank) :
    (runCopy s).bank x = s.bank x :=
  State.bank_congr (by simp) x
@[simp] theorem runCopy_remap (s : State) (x : Bank) :
    (runCopy s).remap x = s.remap x :=
  State.remap_congr (by simp) x
@[simp] theorem runCopy_cell (s : State) (x : Bank) (y : PhysRow) (z : LineNo) :
    (runCopy s).cell x y z = s.cell x y z :=
  State.cell_congr (by simp) x y z
@[simp] theorem grantCopy_remap (b : Bank) (s : State) (x : Bank) :
    (grantCopy b s).remap x = s.remap x :=
  State.remap_congr (by simp) x
@[simp] theorem grantCopy_cell (b : Bank) (s : State) (x : Bank) (y : PhysRow) (z : LineNo) :
    (grantCopy b s).cell x y z = s.cell x y z :=
  State.cell_congr (by simp) x y z
@[simp] theorem runStep_bank (s : State) (x : Bank) :
    (runStep s).bank x = s.bank x :=
  State.bank_congr (by simp) x
@[simp] theorem runStep_remap (s : State) (x : Bank) :
    (runStep s).remap x = s.remap x :=
  State.remap_congr (by simp) x
@[simp] theorem runStep_cell (s : State) (x : Bank) (y : PhysRow) (z : LineNo) :
    (runStep s).cell x y z = s.cell x y z :=
  State.cell_congr (by simp) x y z
@[simp] theorem grantStep_remap (b : Bank) (p : RowLine) (s : State) (x : Bank) :
    (grantStep b p s).remap x = s.remap x :=
  State.remap_congr (by simp) x
@[simp] theorem grantStep_cell (b : Bank) (p : RowLine) (s : State) (x : Bank) (y : PhysRow) (z : LineNo) :
    (grantStep b p s).cell x y z = s.cell x y z :=
  State.cell_congr (by simp) x y z
@[simp] theorem grantClear_remap (b : Bank) (p : RowLine) (s : State) (x : Bank) :
    (grantClear b p s).remap x = s.remap x :=
  State.remap_congr (by simp) x
@[simp] theorem grantClear_cell (b : Bank) (p : RowLine) (s : State) (x : Bank) (y : PhysRow) (z : LineNo) :
    (grantClear b p s).cell x y z = s.cell x y z :=
  State.cell_congr (by simp) x y z
@[simp] theorem grantRefresh_remap (b : Bank) (s : State) (x : Bank) :
    (grantRefresh b s).remap x = s.remap x :=
  State.remap_congr (by simp) x
@[simp] theorem grantRefresh_cell (b : Bank) (s : State) (x : Bank) (y : PhysRow) (z : LineNo) :
    (grantRefresh b s).cell x y z = s.cell x y z :=
  State.cell_congr (by simp) x y z
@[simp] theorem grant_remap (b : Bank) (c : Claim) (s : State) (x : Bank) :
    (grant b c s).remap x = s.remap x :=
  State.remap_congr (by simp) x
@[simp] theorem grant_cell (b : Bank) (c : Claim) (s : State) (x : Bank) (y : PhysRow) (z : LineNo) :
    (grant b c s).cell x y z = s.cell x y z :=
  State.cell_congr (by simp) x y z
@[simp] theorem serve_remap (b : Bank) (s : State) (x : Bank) :
    (serve b s).remap x = s.remap x :=
  State.remap_congr (by simp) x
@[simp] theorem serve_cell (b : Bank) (s : State) (x : Bank) (y : PhysRow) (z : LineNo) :
    (serve b s).cell x y z = s.cell x y z :=
  State.cell_congr (by simp) x y z
@[simp] theorem discardStep_remap (b : Bank) (s : State) (x : Bank) :
    (discardStep b s).remap x = s.remap x :=
  State.remap_congr (by simp) x
@[simp] theorem discardStep_cell (b : Bank) (s : State) (x : Bank) (y : PhysRow) (z : LineNo) :
    (discardStep b s).cell x y z = s.cell x y z :=
  State.cell_congr (by simp) x y z
@[simp] theorem arbitrate_remap (b : Bank) (s : State) (x : Bank) :
    (arbitrate b s).remap x = s.remap x :=
  State.remap_congr (by simp) x
@[simp] theorem arbitrate_cell (b : Bank) (s : State) (x : Bank) (y : PhysRow) (z : LineNo) :
    (arbitrate b s).cell x y z = s.cell x y z :=
  State.cell_congr (by simp) x y z
@[simp] theorem enterRetained_bank (s : State) (x : Bank) :
    (enterRetained s).bank x = s.bank x :=
  State.bank_congr (by simp) x
@[simp] theorem enterRetained_remap (s : State) (x : Bank) :
    (enterRetained s).remap x = s.remap x :=
  State.remap_congr (by simp) x
@[simp] theorem enterRetained_cell (s : State) (x : Bank) (y : PhysRow) (z : LineNo) :
    (enterRetained s).cell x y z = s.cell x y z :=
  State.cell_congr (by simp) x y z
@[simp] theorem retainBank_remap (b : Bank) (s : State) (x : Bank) :
    (retainBank b s).remap x = s.remap x :=
  State.remap_congr (by simp) x
@[simp] theorem retainBank_cell (b : Bank) (s : State) (x : Bank) (y : PhysRow) (z : LineNo) :
    (retainBank b s).cell x y z = s.cell x y z :=
  State.cell_congr (by simp) x y z
@[simp] theorem settleBank_remap (b : Bank) (s : State) (x : Bank) :
    (settleBank b s).remap x = s.remap x :=
  State.remap_congr (by simp) x
@[simp] theorem settleBank_cell (b : Bank) (s : State) (x : Bank) (y : PhysRow) (z : LineNo) :
    (settleBank b s).cell x y z = s.cell x y z :=
  State.cell_congr (by simp) x y z
@[simp] theorem idleBank_remap (b : Bank) (s : State) (x : Bank) :
    (idleBank b s).remap x = s.remap x :=
  State.remap_congr (by simp) x
@[simp] theorem idleBank_cell (b : Bank) (s : State) (x : Bank) (y : PhysRow) (z : LineNo) :
    (idleBank b s).cell x y z = s.cell x y z :=
  State.cell_congr (by simp) x y z
@[simp] theorem repairLine_bank (b : Bank) (rows : Rows) (n : LineNo) (r : ReadResult) (s : State) (x : Bank) :
    (repairLine b rows n r s).bank x = s.bank x :=
  State.bank_congr (by simp) x
@[simp] theorem repairLine_remap (b : Bank) (rows : Rows) (n : LineNo) (r : ReadResult) (s : State) (x : Bank) :
    (repairLine b rows n r s).remap x = s.remap x :=
  State.remap_congr (by simp) x
@[simp] theorem mergeLineEffect_bank (b : Bank) (rows : Rows) (n : LineNo) (m : BitVec 8) (w : LineWords) (r : ReadResult) (s : State) (x : Bank) :
    (mergeLineEffect b rows n m w r s).bank x = s.bank x :=
  State.bank_congr (by simp) x
@[simp] theorem mergeLineEffect_remap (b : Bank) (rows : Rows) (n : LineNo) (m : BitVec 8) (w : LineWords) (r : ReadResult) (s : State) (x : Bank) :
    (mergeLineEffect b rows n m w r s).remap x = s.remap x :=
  State.remap_congr (by simp) x
@[simp] theorem copyLineEffect_bank (b : Bank) (p : PhysRow) (t : SpareIdx) (n : LineNo) (r : ReadResult) (s : State) (x : Bank) :
    (copyLineEffect b p t n r s).bank x = s.bank x :=
  State.bank_congr (by simp) x
@[simp] theorem copyLineEffect_remap (b : Bank) (p : PhysRow) (t : SpareIdx) (n : LineNo) (r : ReadResult) (s : State) (x : Bank) :
    (copyLineEffect b p t n r s).remap x = s.remap x :=
  State.remap_congr (by simp) x
@[simp] theorem completeRequest_bank (q : Request) (o : HostOutcome) (f : Bool) (d : Option LineWords) (s : State) (x : Bank) :
    (completeRequest q o f d s).bank x = s.bank x :=
  State.bank_congr (by simp) x
@[simp] theorem completeRequest_remap (q : Request) (o : HostOutcome) (f : Bool) (d : Option LineWords) (s : State) (x : Bank) :
    (completeRequest q o f d s).remap x = s.remap x :=
  State.remap_congr (by simp) x
@[simp] theorem completeRequest_cell (q : Request) (o : HostOutcome) (f : Bool) (d : Option LineWords) (s : State) (x : Bank) (y : PhysRow) (z : LineNo) :
    (completeRequest q o f d s).cell x y z = s.cell x y z :=
  State.cell_congr (by simp) x y z
@[simp] theorem acceptRequest_bank (q : Request) (s : State) (x : Bank) :
    (acceptRequest q s).bank x = s.bank x :=
  State.bank_congr (by simp) x
@[simp] theorem acceptRequest_remap (q : Request) (s : State) (x : Bank) :
    (acceptRequest q s).remap x = s.remap x :=
  State.remap_congr (by simp) x
@[simp] theorem acceptRequest_cell (q : Request) (s : State) (x : Bank) (y : PhysRow) (z : LineNo) :
    (acceptRequest q s).cell x y z = s.cell x y z :=
  State.cell_congr (by simp) x y z
@[simp] theorem rejectRequest_bank (r : SubmitResult) (s : State) (x : Bank) :
    (rejectRequest r s).bank x = s.bank x :=
  State.bank_congr (by simp) x
@[simp] theorem rejectRequest_remap (r : SubmitResult) (s : State) (x : Bank) :
    (rejectRequest r s).remap x = s.remap x :=
  State.remap_congr (by simp) x
@[simp] theorem rejectRequest_cell (r : SubmitResult) (s : State) (x : Bank) (y : PhysRow) (z : LineNo) :
    (rejectRequest r s).cell x y z = s.cell x y z :=
  State.cell_congr (by simp) x y z
@[simp] theorem submitRequest_bank (w : Word) (s : State) (x : Bank) :
    (submitRequest w s).bank x = s.bank x :=
  State.bank_congr (by simp) x
@[simp] theorem submitRequest_remap (w : Word) (s : State) (x : Bank) :
    (submitRequest w s).remap x = s.remap x :=
  State.remap_congr (by simp) x
@[simp] theorem submitRequest_cell (w : Word) (s : State) (x : Bank) (y : PhysRow) (z : LineNo) :
    (submitRequest w s).cell x y z = s.cell x y z :=
  State.cell_congr (by simp) x y z
@[simp] theorem popCompletion_bank (s : State) (x : Bank) :
    (popCompletion s).bank x = s.bank x :=
  State.bank_congr (by simp) x
@[simp] theorem popCompletion_remap (s : State) (x : Bank) :
    (popCompletion s).remap x = s.remap x :=
  State.remap_congr (by simp) x
@[simp] theorem popCompletion_cell (s : State) (x : Bank) (y : PhysRow) (z : LineNo) :
    (popCompletion s).cell x y z = s.cell x y z :=
  State.cell_congr (by simp) x y z
@[simp] theorem readBufData_bank (s : State) (x : Bank) :
    (readBufData s).bank x = s.bank x :=
  State.bank_congr (by simp) x
@[simp] theorem readBufData_remap (s : State) (x : Bank) :
    (readBufData s).remap x = s.remap x :=
  State.remap_congr (by simp) x
@[simp] theorem readBufData_cell (s : State) (x : Bank) (y : PhysRow) (z : LineNo) :
    (readBufData s).cell x y z = s.cell x y z :=
  State.cell_congr (by simp) x y z
@[simp] theorem writeBufData_bank (w : Word) (s : State) (x : Bank) :
    (writeBufData w s).bank x = s.bank x :=
  State.bank_congr (by simp) x
@[simp] theorem writeBufData_remap (w : Word) (s : State) (x : Bank) :
    (writeBufData w s).remap x = s.remap x :=
  State.remap_congr (by simp) x
@[simp] theorem writeBufData_cell (w : Word) (s : State) (x : Bank) (y : PhysRow) (z : LineNo) :
    (writeBufData w s).cell x y z = s.cell x y z :=
  State.cell_congr (by simp) x y z
@[simp] theorem dispatchRequest_remap (q : Request) (s : State) (x : Bank) :
    (dispatchRequest q s).remap x = s.remap x :=
  State.remap_congr (by simp) x
@[simp] theorem dispatchRequest_cell (q : Request) (s : State) (x : Bank) (y : PhysRow) (z : LineNo) :
    (dispatchRequest q s).cell x y z = s.cell x y z :=
  State.cell_congr (by simp) x y z
@[simp] theorem placeCopy_remap (b : Bank) (l : LogicalRow) (s : State) (x : Bank) :
    (placeCopy b l s).remap x = s.remap x :=
  State.remap_congr (by simp) x
@[simp] theorem placeCopy_cell (b : Bank) (l : LogicalRow) (s : State) (x : Bank) (y : PhysRow) (z : LineNo) :
    (placeCopy b l s).cell x y z = s.cell x y z :=
  State.cell_congr (by simp) x y z
@[simp] theorem placeClear_remap (b : Bank) (p : RowLine) (s : State) (x : Bank) :
    (placeClear b p s).remap x = s.remap x :=
  State.remap_congr (by simp) x
@[simp] theorem placeClear_cell (b : Bank) (p : RowLine) (s : State) (x : Bank) (y : PhysRow) (z : LineNo) :
    (placeClear b p s).cell x y z = s.cell x y z :=
  State.cell_congr (by simp) x y z
@[simp] theorem placeStep_remap (p : Position) (s : State) (x : Bank) :
    (placeStep p s).remap x = s.remap x :=
  State.remap_congr (by simp) x
@[simp] theorem placeStep_cell (p : Position) (s : State) (x : Bank) (y : PhysRow) (z : LineNo) :
    (placeStep p s).cell x y z = s.cell x y z :=
  State.cell_congr (by simp) x y z
@[simp] theorem issueStep_remap (s : State) (x : Bank) :
    (issueStep s).remap x = s.remap x :=
  State.remap_congr (by simp) x
@[simp] theorem issueStep_cell (s : State) (x : Bank) (y : PhysRow) (z : LineNo) :
    (issueStep s).cell x y z = s.cell x y z :=
  State.cell_congr (by simp) x y z
@[simp] theorem refreshExpiry_remap (s : State) (x : Bank) :
    (refreshExpiry s).remap x = s.remap x :=
  State.remap_congr (by simp) x
@[simp] theorem refreshExpiry_cell (s : State) (x : Bank) (y : PhysRow) (z : LineNo) :
    (refreshExpiry s).cell x y z = s.cell x y z :=
  State.cell_congr (by simp) x y z
@[simp] theorem burnPasses_bank (u : Burn) (s : State) (x : Bank) :
    (burnPasses u s).bank x = s.bank x :=
  State.bank_congr (by simp) x
@[simp] theorem burnPasses_cell (u : Burn) (s : State) (x : Bank) (y : PhysRow) (z : LineNo) :
    (burnPasses u s).cell x y z = s.cell x y z :=
  State.cell_congr (by simp) x y z
@[simp] theorem burnFails_bank (u : Burn) (s : State) (x : Bank) :
    (burnFails u s).bank x = s.bank x :=
  State.bank_congr (by simp) x
@[simp] theorem burnFails_remap (u : Burn) (s : State) (x : Bank) :
    (burnFails u s).remap x = s.remap x :=
  State.remap_congr (by simp) x
@[simp] theorem burnFails_cell (u : Burn) (s : State) (x : Bank) (y : PhysRow) (z : LineNo) :
    (burnFails u s).cell x y z = s.cell x y z :=
  State.cell_congr (by simp) x y z
@[simp] theorem attemptFails_bank (u : Burn) (s : State) (x : Bank) :
    (attemptFails u s).bank x = s.bank x :=
  State.bank_congr (by simp) x
@[simp] theorem attemptFails_remap (u : Burn) (s : State) (x : Bank) :
    (attemptFails u s).remap x = s.remap x :=
  State.remap_congr (by simp) x
@[simp] theorem attemptFails_cell (u : Burn) (s : State) (x : Bank) (y : PhysRow) (z : LineNo) :
    (attemptFails u s).cell x y z = s.cell x y z :=
  State.cell_congr (by simp) x y z
@[simp] theorem attemptEnds_bank (p : Bool) (s : State) (x : Bank) :
    (attemptEnds p s).bank x = s.bank x :=
  State.bank_congr (by simp) x
@[simp] theorem attemptEnds_cell (p : Bool) (s : State) (x : Bank) (y : PhysRow) (z : LineNo) :
    (attemptEnds p s).cell x y z = s.cell x y z :=
  State.cell_congr (by simp) x y z
@[simp] theorem beginClear_remap (b : Bank) (s : State) (x : Bank) :
    (beginClear b s).remap x = s.remap x :=
  State.remap_congr (by simp) x
@[simp] theorem beginClear_cell (b : Bank) (s : State) (x : Bank) (y : PhysRow) (z : LineNo) :
    (beginClear b s).cell x y z = s.cell x y z :=
  State.cell_congr (by simp) x y z
@[simp] theorem clearBankBody_remap (a : MntArg) (s : State) (x : Bank) :
    (clearBankBody a s).remap x = s.remap x :=
  State.remap_congr (by simp) x
@[simp] theorem clearBankBody_cell (a : MntArg) (s : State) (x : Bank) (y : PhysRow) (z : LineNo) :
    (clearBankBody a s).cell x y z = s.cell x y z :=
  State.cell_congr (by simp) x y z
@[simp] theorem migrateRowBody_bank (a : MntArg) (s : State) (x : Bank) :
    (migrateRowBody a s).bank x = s.bank x :=
  State.bank_congr (by simp) x
@[simp] theorem migrateRowBody_cell (a : MntArg) (s : State) (x : Bank) (y : PhysRow) (z : LineNo) :
    (migrateRowBody a s).cell x y z = s.cell x y z :=
  State.cell_congr (by simp) x y z
@[simp] theorem abortMigrationBody_cell (a : MntArg) (s : State) (x : Bank) (y : PhysRow) (z : LineNo) :
    (abortMigrationBody a s).cell x y z = s.cell x y z :=
  State.cell_congr (by simp) x y z
@[simp] theorem beginBurn_bank (b : Bank) (l : LogicalRow) (i : SpareIdx) (s : State) (x : Bank) :
    (beginBurn b l i s).bank x = s.bank x :=
  State.bank_congr (by simp) x
@[simp] theorem beginBurn_remap (b : Bank) (l : LogicalRow) (i : SpareIdx) (s : State) (x : Bank) :
    (beginBurn b l i s).remap x = s.remap x :=
  State.remap_congr (by simp) x
@[simp] theorem beginBurn_cell (b : Bank) (l : LogicalRow) (i : SpareIdx) (s : State) (x : Bank) (y : PhysRow) (z : LineNo) :
    (beginBurn b l i s).cell x y z = s.cell x y z :=
  State.cell_congr (by simp) x y z
@[simp] theorem burnRowBody_bank (a : MntArg) (s : State) (x : Bank) :
    (burnRowBody a s).bank x = s.bank x :=
  State.bank_congr (by simp) x
@[simp] theorem burnRowBody_remap (a : MntArg) (s : State) (x : Bank) :
    (burnRowBody a s).remap x = s.remap x :=
  State.remap_congr (by simp) x
@[simp] theorem burnRowBody_cell (a : MntArg) (s : State) (x : Bank) (y : PhysRow) (z : LineNo) :
    (burnRowBody a s).cell x y z = s.cell x y z :=
  State.cell_congr (by simp) x y z
@[simp] theorem setHold_bank (v : Bool) (s : State) (x : Bank) :
    (setHold v s).bank x = s.bank x :=
  State.bank_congr (by simp) x
@[simp] theorem setHold_remap (v : Bool) (s : State) (x : Bank) :
    (setHold v s).remap x = s.remap x :=
  State.remap_congr (by simp) x
@[simp] theorem setHold_cell (v : Bool) (s : State) (x : Bank) (y : PhysRow) (z : LineNo) :
    (setHold v s).cell x y z = s.cell x y z :=
  State.cell_congr (by simp) x y z
@[simp] theorem holdBody_remap (a : MntArg) (s : State) (x : Bank) :
    (holdBody a s).remap x = s.remap x :=
  State.remap_congr (by simp) x
@[simp] theorem holdBody_cell (a : MntArg) (s : State) (x : Bank) (y : PhysRow) (z : LineNo) :
    (holdBody a s).cell x y z = s.cell x y z :=
  State.cell_congr (by simp) x y z
@[simp] theorem releaseBody_bank (a : MntArg) (s : State) (x : Bank) :
    (releaseBody a s).bank x = s.bank x :=
  State.bank_congr (by simp) x
@[simp] theorem releaseBody_remap (a : MntArg) (s : State) (x : Bank) :
    (releaseBody a s).remap x = s.remap x :=
  State.remap_congr (by simp) x
@[simp] theorem releaseBody_cell (a : MntArg) (s : State) (x : Bank) (y : PhysRow) (z : LineNo) :
    (releaseBody a s).cell x y z = s.cell x y z :=
  State.cell_congr (by simp) x y z
@[simp] theorem retainIdleBanks_remap (s : State) (x : Bank) :
    (retainIdleBanks s).remap x = s.remap x :=
  State.remap_congr (by simp) x
@[simp] theorem retainIdleBanks_cell (s : State) (x : Bank) (y : PhysRow) (z : LineNo) :
    (retainIdleBanks s).cell x y z = s.cell x y z :=
  State.cell_congr (by simp) x y z
@[simp] theorem enterRetention_remap (s : State) (x : Bank) :
    (enterRetention s).remap x = s.remap x :=
  State.remap_congr (by simp) x
@[simp] theorem enterRetention_cell (s : State) (x : Bank) (y : PhysRow) (z : LineNo) :
    (enterRetention s).cell x y z = s.cell x y z :=
  State.cell_congr (by simp) x y z
@[simp] theorem enterRetentionBody_remap (a : MntArg) (s : State) (x : Bank) :
    (enterRetentionBody a s).remap x = s.remap x :=
  State.remap_congr (by simp) x
@[simp] theorem enterRetentionBody_cell (a : MntArg) (s : State) (x : Bank) (y : PhysRow) (z : LineNo) :
    (enterRetentionBody a s).cell x y z = s.cell x y z :=
  State.cell_congr (by simp) x y z
@[simp] theorem exitRetentionBody_remap (a : MntArg) (s : State) (x : Bank) :
    (exitRetentionBody a s).remap x = s.remap x :=
  State.remap_congr (by simp) x
@[simp] theorem exitRetentionBody_cell (a : MntArg) (s : State) (x : Bank) (y : PhysRow) (z : LineNo) :
    (exitRetentionBody a s).cell x y z = s.cell x y z :=
  State.cell_congr (by simp) x y z
@[simp] theorem finishExit_bank (s : State) (x : Bank) :
    (finishExit s).bank x = s.bank x :=
  State.bank_congr (by simp) x
@[simp] theorem finishExit_remap (s : State) (x : Bank) :
    (finishExit s).remap x = s.remap x :=
  State.remap_congr (by simp) x
@[simp] theorem finishExit_cell (s : State) (x : Bank) (y : PhysRow) (z : LineNo) :
    (finishExit s).cell x y z = s.cell x y z :=
  State.cell_congr (by simp) x y z
@[simp] theorem dropRecordBody_bank (a : MntArg) (s : State) (x : Bank) :
    (dropRecordBody a s).bank x = s.bank x :=
  State.bank_congr (by simp) x
@[simp] theorem dropRecordBody_remap (a : MntArg) (s : State) (x : Bank) :
    (dropRecordBody a s).remap x = s.remap x :=
  State.remap_congr (by simp) x
@[simp] theorem dropRecordBody_cell (a : MntArg) (s : State) (x : Bank) (y : PhysRow) (z : LineNo) :
    (dropRecordBody a s).cell x y z = s.cell x y z :=
  State.cell_congr (by simp) x y z
@[simp] theorem restartPatrolBody_remap (a : MntArg) (s : State) (x : Bank) :
    (restartPatrolBody a s).remap x = s.remap x :=
  State.remap_congr (by simp) x
@[simp] theorem restartPatrolBody_cell (a : MntArg) (s : State) (x : Bank) (y : PhysRow) (z : LineNo) :
    (restartPatrolBody a s).cell x y z = s.cell x y z :=
  State.cell_congr (by simp) x y z
@[simp] theorem badCommandBody_bank (a : MntArg) (s : State) (x : Bank) :
    (badCommandBody a s).bank x = s.bank x :=
  State.bank_congr (by simp) x
@[simp] theorem badCommandBody_remap (a : MntArg) (s : State) (x : Bank) :
    (badCommandBody a s).remap x = s.remap x :=
  State.remap_congr (by simp) x
@[simp] theorem badCommandBody_cell (a : MntArg) (s : State) (x : Bank) (y : PhysRow) (z : LineNo) :
    (badCommandBody a s).cell x y z = s.cell x y z :=
  State.cell_congr (by simp) x y z
@[simp] theorem storeLatch_bank (w : Word) (s : State) (x : Bank) :
    (storeLatch w s).bank x = s.bank x :=
  State.bank_congr (by simp) x
@[simp] theorem storeLatch_remap (w : Word) (s : State) (x : Bank) :
    (storeLatch w s).remap x = s.remap x :=
  State.remap_congr (by simp) x
@[simp] theorem storeLatch_cell (w : Word) (s : State) (x : Bank) (y : PhysRow) (z : LineNo) :
    (storeLatch w s).cell x y z = s.cell x y z :=
  State.cell_congr (by simp) x y z
@[simp] theorem storeArg_bank (w : Word) (s : State) (x : Bank) :
    (storeArg w s).bank x = s.bank x :=
  State.bank_congr (by simp) x
@[simp] theorem storeArg_remap (w : Word) (s : State) (x : Bank) :
    (storeArg w s).remap x = s.remap x :=
  State.remap_congr (by simp) x
@[simp] theorem storeArg_cell (w : Word) (s : State) (x : Bank) (y : PhysRow) (z : LineNo) :
    (storeArg w s).cell x y z = s.cell x y z :=
  State.cell_congr (by simp) x y z
@[simp] theorem storeBufSelect_bank (w : Word) (s : State) (x : Bank) :
    (storeBufSelect w s).bank x = s.bank x :=
  State.bank_congr (by simp) x
@[simp] theorem storeBufSelect_remap (w : Word) (s : State) (x : Bank) :
    (storeBufSelect w s).remap x = s.remap x :=
  State.remap_congr (by simp) x
@[simp] theorem storeBufSelect_cell (w : Word) (s : State) (x : Bank) (y : PhysRow) (z : LineNo) :
    (storeBufSelect w s).cell x y z = s.cell x y z :=
  State.cell_congr (by simp) x y z
@[simp] theorem storeRmpSelect_bank (w : Word) (s : State) (x : Bank) :
    (storeRmpSelect w s).bank x = s.bank x :=
  State.bank_congr (by simp) x
@[simp] theorem storeRmpSelect_cell (w : Word) (s : State) (x : Bank) (y : PhysRow) (z : LineNo) :
    (storeRmpSelect w s).cell x y z = s.cell x y z :=
  State.cell_congr (by simp) x y z
@[simp] theorem storeFrtSelect_bank (w : Word) (s : State) (x : Bank) :
    (storeFrtSelect w s).bank x = s.bank x :=
  State.bank_congr (by simp) x
@[simp] theorem storeFrtSelect_remap (w : Word) (s : State) (x : Bank) :
    (storeFrtSelect w s).remap x = s.remap x :=
  State.remap_congr (by simp) x
@[simp] theorem storeFrtSelect_cell (w : Word) (s : State) (x : Bank) (y : PhysRow) (z : LineNo) :
    (storeFrtSelect w s).cell x y z = s.cell x y z :=
  State.cell_congr (by simp) x y z
@[simp] theorem storeRpsSelect_bank (w : Word) (s : State) (x : Bank) :
    (storeRpsSelect w s).bank x = s.bank x :=
  State.bank_congr (by simp) x
@[simp] theorem storeRpsSelect_remap (w : Word) (s : State) (x : Bank) :
    (storeRpsSelect w s).remap x = s.remap x :=
  State.remap_congr (by simp) x
@[simp] theorem storeRpsSelect_cell (w : Word) (s : State) (x : Bank) (y : PhysRow) (z : LineNo) :
    (storeRpsSelect w s).cell x y z = s.cell x y z :=
  State.cell_congr (by simp) x y z
@[simp] theorem storeConfig_bank (w : Word) (s : State) (x : Bank) :
    (storeConfig w s).bank x = s.bank x :=
  State.bank_congr (by simp) x
@[simp] theorem storeConfig_remap (w : Word) (s : State) (x : Bank) :
    (storeConfig w s).remap x = s.remap x :=
  State.remap_congr (by simp) x
@[simp] theorem storeConfig_cell (w : Word) (s : State) (x : Bank) (y : PhysRow) (z : LineNo) :
    (storeConfig w s).cell x y z = s.cell x y z :=
  State.cell_congr (by simp) x y z
@[simp] theorem storeInterval_bank (w : Word) (s : State) (x : Bank) :
    (storeInterval w s).bank x = s.bank x :=
  State.bank_congr (by simp) x
@[simp] theorem storeInterval_remap (w : Word) (s : State) (x : Bank) :
    (storeInterval w s).remap x = s.remap x :=
  State.remap_congr (by simp) x
@[simp] theorem storeInterval_cell (w : Word) (s : State) (x : Bank) (y : PhysRow) (z : LineNo) :
    (storeInterval w s).cell x y z = s.cell x y z :=
  State.cell_congr (by simp) x y z
@[simp] theorem plainWrite_bank (o : BitVec 8) (w : Word) (s : State) (x : Bank) :
    (plainWrite o w s).bank x = s.bank x :=
  State.bank_congr (by simp) x
@[simp] theorem plainWrite_cell (o : BitVec 8) (w : Word) (s : State) (x : Bank) (y : PhysRow) (z : LineNo) :
    (plainWrite o w s).cell x y z = s.cell x y z :=
  State.cell_congr (by simp) x y z
@[simp] theorem readEntryA_bank (s : State) (x : Bank) :
    (readEntryA s).bank x = s.bank x :=
  State.bank_congr (by simp) x
@[simp] theorem readEntryA_remap (s : State) (x : Bank) :
    (readEntryA s).remap x = s.remap x :=
  State.remap_congr (by simp) x
@[simp] theorem readEntryA_cell (s : State) (x : Bank) (y : PhysRow) (z : LineNo) :
    (readEntryA s).cell x y z = s.cell x y z :=
  State.cell_congr (by simp) x y z
@[simp] theorem becomeReady_bank (s : State) (x : Bank) :
    (becomeReady s).bank x = s.bank x :=
  State.bank_congr (by simp) x
@[simp] theorem becomeReady_remap (s : State) (x : Bank) :
    (becomeReady s).remap x = s.remap x :=
  State.remap_congr (by simp) x
@[simp] theorem becomeReady_cell (s : State) (x : Bank) (y : PhysRow) (z : LineNo) :
    (becomeReady s).cell x y z = s.cell x y z :=
  State.cell_congr (by simp) x y z
@[simp] theorem beginStart_bank (s : State) (x : Bank) :
    (beginStart s).bank x = s.bank x :=
  State.bank_congr (by simp) x
@[simp] theorem beginStart_cell (s : State) (x : Bank) (y : PhysRow) (z : LineNo) :
    (beginStart s).cell x y z = s.cell x y z :=
  State.cell_congr (by simp) x y z

end Sys2Proof.Machine
end

