-- ==== Sys2Proof/Laws/Exec.lean ====
section
/-! SUPPORT. Every command answers a next state: that state as a function of the command, over the shared
operations, so that a lemma about every command is a case split over one function. -/

namespace Sys2Proof.Machine

/-- The state after the end of the operation in progress on bank `b`, where its kind is the one asked for. -/
def afterEnd (b : Bank) (s : State) (ends : Operation → Disposition → Option State) : State :=
  match (s.bank b).phase with
  | .busy op d => (ends op d).getD s
  | .idle => s
  | .retained => s

/-- The state after a command. -/
def after (c : Instr) (s : State) : State :=
  match c with
  | .powerOn => applyPower s
  | .powerLoss => losePower s
  | .rstAssert => assertRst s
  | .rstRelease => releaseRst s
  | .bitChange b r n p => s.strike b r n [p]
  | .loadingEnd => endLoading s
  | .arrayInitEnd => endArrayInit s
  | .restartingEnd => endRestarting s
  | .refreshTimerExpiry => if s.refreshTimer = .running then refreshExpiry s else s
  | .stepTimerExpiry => if stepDue s then issueStep s else s
  | .readLine b => afterEnd b s fun op d =>
      match op with
      | .readLine q rows f => some (endRead b q rows f d s)
      | _ => none
  | .writeLine b => afterEnd b s fun op d =>
      match op with
      | .writeLine q rows f w => some (endWrite b q rows f w d s)
      | _ => none
  | .mergeLine b => afterEnd b s fun op d =>
      match op with
      | .mergeLine q rows f m w => some (endMerge b q rows f m w d s)
      | _ => none
  | .scrubLine b => afterEnd b s fun op d =>
      match op with
      | .scrubLine rows n l => some (endScrub b rows n l d s)
      | _ => none
  | .copyLine b struck => afterEnd b s fun op d =>
      match op with
      | .copyLine l p t n => some (endCopy b l p t n struck d s)
      | _ => none
  | .clearLine b => afterEnd b s fun op d =>
      match op with
      | .clearLine r n => some (endClear b r n d s)
      | _ => none
  | .refresh b => afterEnd b s fun op d =>
      match op with
      | .refresh => some (endRefresh b d s)
      | _ => none
  | .dispatch => match oldestEligible? s with
      | some h => dispatchRequest h.request s
      | none => s
  | .copyRequestPlace => match s.mig.state with
      | .copying b l .absent => placeCopy b l s
      | _ => s
  | .autoSelection => autoSelect s
  | .clearLinePlace => match clearPlacement? s with
      | some (b, p) => placeClear b p s
      | none => s
  | .burnAttemptEnd passed => attemptEnds passed s
  | .retentionExitEnd => if s.hpt.state = .leavingRetention then finishExit s else s
  | .submit w => s.onWrite (submitRequest w)
  | .bufDataRead => s.onRead readBufData
  | .bufDataWrite w => s.onWrite (writeBufData w)
  | .cplPop _ => s.onWrite popCompletion
  | .uerPop _ => s.onWrite popReport
  | .frtEntryARead => s.onRead readEntryA
  | .evtAck w => s.onWrite (acknowledge w)
  | .evtMask w => s.onWrite (storeMask w)
  | .hptConfig w => s.onWrite (storeConfig w)
  | .ptlInterval w => s.onWrite (storeInterval w)
  | .registerWrite o w => s.onWrite (writeRegister o w)
  | .clearBank => takeCommand .clearBank clearBankBody s
  | .migrateRow => takeCommand .migrateRow migrateRowBody s
  | .abortMigration => takeCommand .abortMigration abortMigrationBody s
  | .burnRow => takeCommand .burnRow burnRowBody s
  | .hold => takeCommand .hold holdBody s
  | .release => takeCommand .release releaseBody s
  | .enterRetention => takeCommand .enterRetention enterRetentionBody s
  | .exitRetention => takeCommand .exitRetention exitRetentionBody s
  | .dropRecord => takeCommand .dropRecord dropRecordBody s
  | .restartPatrol => takeCommand .restartPatrol restartPatrolBody s
  | .badCommand code => writeCommand code s

/-- Every command answers a next state, that of `after`. -/
theorem exec_eq_next (c : Instr) (s : State) : exec c s = .next (after c s) := by
  cases c <;> simp only [exec, after, afterEnd, execPowerOn, execPowerLoss, execRstAssert, execRstRelease,
    execBitChange, execLoadingEnd, execArrayInitEnd, execRestartingEnd, execRefreshTimerExpiry,
    execStepTimerExpiry, execReadLine, execWriteLine, execMergeLine, execScrubLine, execCopyLine,
    execClearLine, execRefresh, execDispatch, execCopyRequestPlace, execAutoSelection, execClearLinePlace,
    execBurnAttemptEnd, execRetentionExitEnd, execSubmit, execBufDataRead, execBufDataWrite, execCplPop,
    execUerPop, execFrtEntryARead, execEvtAck, execEvtMask, execHptConfig, execPtlInterval,
    execRegisterWrite, execClearBank, execMigrateRow, execAbortMigration, execBurnRow, execHold,
    execRelease, execEnterRetention, execExitRetention, execDropRecord, execRestartPatrol,
    execBadCommand]
  all_goals
    try cases (s.bank _).phase with
    | busy op d => cases op <;> simp
    | idle => simp
    | retained => simp
  all_goals (try split) <;> simp_all

/-- The next state of a command is that of `after`. -/
theorem eq_after {c : Instr} {s t : State} (h : exec c s = .next t) : t = after c s := by
  rw [exec_eq_next] at h
  injection h with h
  exact h.symm

end Sys2Proof.Machine
end

