-- ==== Sys2Proof/Laws/Memory.lean ====
section
/-! SUPPORT. The array: what its reads and writes give, and that every operation on it keeps the canonical
form. -/

namespace Sys2Proof.Machine

/-- A pair of the written array is a pair of the old one or the pair written. -/
theorem Memory.mem_write {m : Memory} {a : Nat} {c : LineCell} {x : Nat × LineCell}
    (h : x ∈ Memory.write m a c) : x ∈ m ∨ x = (a, c) := by
  induction m with
  | nil => unfold Memory.write at h; split at h <;> simp_all
  | cons e rest ih =>
    obtain ⟨j, d⟩ := e
    unfold Memory.write at h
    split at h
    · split at h
      · exact .inl h
      · rcases List.mem_cons.1 h with h | h
        · exact .inr h
        · exact .inl h
    · split at h
      · split at h
        · exact .inl (List.mem_cons_of_mem _ h)
        · rcases List.mem_cons.1 h with h | h
          · exact .inr h
          · exact .inl (List.mem_cons_of_mem _ h)
      · rcases List.mem_cons.1 h with h | h
        · exact .inl (h ▸ List.mem_cons_self)
        · rcases ih h with h | h
          · exact .inl (List.mem_cons_of_mem _ h)
          · exact .inr h

/-- A write above `k` keeps every pair above `k`. -/
theorem Memory.write_all_above (k : Nat) (m : Memory) (a : Nat) (c : LineCell) (hk : k < a)
    (h : m.all (fun e => decide (k < e.1)) = true) :
    (Memory.write m a c).all (fun e => decide (k < e.1)) = true := by
  rw [List.all_eq_true] at h ⊢
  intro x hx
  rcases Memory.mem_write hx with hx | rfl
  · exact h x hx
  · simpa using hk

/-- A write keeps the canonical form. -/
theorem Memory.write_wf (m : Memory) (a : Nat) (c : LineCell) (h : m.wf = true) :
    (Memory.write m a c).wf = true := by
  induction m with
  | nil =>
    unfold Memory.write
    split
    · rfl
    · simp_all [Memory.wf]
  | cons e rest ih =>
    obtain ⟨j, d⟩ := e
    simp only [Memory.wf, Bool.and_eq_true, bne_iff_ne, ne_eq] at h
    obtain ⟨⟨hd, habove⟩, hrest⟩ := h
    unfold Memory.write
    split
    · rename_i haj
      split
      · simp [Memory.wf, hd, habove, hrest]
      · rename_i hc
        simp only [Memory.wf, Bool.and_eq_true, bne_iff_ne, ne_eq, List.all_cons, decide_eq_true_eq]
        refine ⟨⟨hc, haj, ?_⟩, ⟨hd, habove⟩, hrest⟩
        rw [List.all_eq_true] at habove ⊢
        intro x hx
        have := habove x hx
        simp only [decide_eq_true_eq] at this ⊢
        omega
    · split
      · rename_i haj
        subst haj
        split
        · exact hrest
        · rename_i hc
          simp [Memory.wf, hc, habove, hrest]
      · rename_i h1 h2
        simp only [Memory.wf, Bool.and_eq_true, bne_iff_ne, ne_eq]
        exact ⟨⟨hd, Memory.write_all_above j rest a c (by omega) habove⟩, ih hrest⟩

/-- A number below every pair of the list reads as unlisted. -/
theorem Memory.read_below (m : Memory) (a : Nat) (h : m.all (fun e => decide (a < e.1)) = true) :
    Memory.read m a = .unlisted := by
  induction m with
  | nil => rfl
  | cons e rest ih =>
    obtain ⟨j, d⟩ := e
    simp only [List.all_cons, Bool.and_eq_true, decide_eq_true_eq] at h
    unfold Memory.read
    rw [if_neg (by omega)]
    exact ih h.2

/-- A read of the line just written gives what was written. -/
theorem Memory.read_write_same (m : Memory) (a : Nat) (c : LineCell) (h : m.wf = true) :
    Memory.read (Memory.write m a c) a = c := by
  induction m with
  | nil =>
    unfold Memory.write
    split <;> simp_all [Memory.read]
  | cons e rest ih =>
    obtain ⟨j, d⟩ := e
    simp only [Memory.wf, Bool.and_eq_true, bne_iff_ne, ne_eq] at h
    obtain ⟨⟨hd, habove⟩, hrest⟩ := h
    unfold Memory.write
    split
    · rename_i haj
      split
      · rename_i hc
        subst hc
        refine Memory.read_below _ _ ?_
        simp only [List.all_cons, Bool.and_eq_true, decide_eq_true_eq]
        refine ⟨haj, ?_⟩
        rw [List.all_eq_true] at habove ⊢
        intro x hx
        have := habove x hx
        simp only [decide_eq_true_eq] at this ⊢
        omega
      · simp [Memory.read]
    · split
      · rename_i haj
        subst haj
        split
        · rename_i hc
          subst hc
          exact Memory.read_below _ _ habove
        · simp [Memory.read]
      · rename_i h1 h2
        unfold Memory.read
        rw [if_neg (by omega)]
        exact ih hrest

/-- A write leaves every other line as it was. -/
theorem Memory.read_write_other (m : Memory) (a a' : Nat) (c : LineCell) (h : a' ≠ a) :
    Memory.read (Memory.write m a c) a' = Memory.read m a' := by
  induction m with
  | nil =>
    unfold Memory.write
    split
    · rfl
    · simp [Memory.read, Ne.symm h]
  | cons e rest ih =>
    obtain ⟨j, d⟩ := e
    unfold Memory.write
    split
    · split
      · rfl
      · simp [Memory.read, Ne.symm h]
    · split
      · rename_i haj
        subst haj
        split <;> simp [Memory.read, Ne.symm h]
      · simp only [Memory.read]
        split
        · rfl
        · exact ih

/-- Different physical lines have different numbers (R1). -/
theorem lineAddress_inj {b b' : Bank} {r r' : PhysRow} {n n' : LineNo}
    (h : lineAddress b r n = lineAddress b' r' n') : b = b' ∧ r = r' ∧ n = n' := by
  simp only [lineAddress] at h
  refine ⟨Fin.ext ?_, Fin.ext ?_, Fin.ext ?_⟩ <;> omega

/-- The line just written holds what was written. -/
theorem State.cell_writeCell_same (s : State) (b : Bank) (r : PhysRow) (n : LineNo) (c : LineCell)
    (h : s.array.wf = true) : (s.writeCell b r n c).cell b r n = c :=
  Memory.read_write_same _ _ _ h

/-- A write of one line leaves every other line as it was. -/
theorem State.cell_writeCell_other (s : State) (b b' : Bank) (r r' : PhysRow) (n n' : LineNo)
    (c : LineCell) (h : ¬(b' = b ∧ r' = r ∧ n' = n)) :
    (s.writeCell b r n c).cell b' r' n' = s.cell b' r' n' :=
  Memory.read_write_other _ _ _ _ fun e => h (lineAddress_inj e)

theorem State.writeCell_wf (s : State) (b : Bank) (r : PhysRow) (n : LineNo) (c : LineCell)
    (h : s.array.wf = true) : (s.writeCell b r n c).array.wf = true :=
  Memory.write_wf _ _ _ h

theorem State.writeData_wf (s : State) (b : Bank) (r : PhysRow) (n : LineNo) (w : LineWords)
    (h : s.array.wf = true) : (s.writeData b r n w).array.wf = true :=
  s.writeCell_wf b r n _ h

theorem State.writePoison_wf (s : State) (b : Bank) (r : PhysRow) (n : LineNo)
    (h : s.array.wf = true) : (s.writePoison b r n).array.wf = true :=
  s.writeCell_wf b r n _ h

theorem State.writeDataRows_wf (s : State) (b : Bank) (rows : Rows) (n : LineNo) (w : LineWords)
    (h : s.array.wf = true) : (s.writeDataRows b rows n w).array.wf = true := by
  unfold State.writeDataRows
  split
  · exact s.writeData_wf _ _ _ _ h
  · exact State.writeData_wf _ _ _ _ _ (s.writeData_wf _ _ _ _ h)

theorem State.poisonRows_wf (s : State) (b : Bank) (rows : Rows) (n : LineNo)
    (h : s.array.wf = true) : (s.poisonRows b rows n).array.wf = true := by
  unfold State.poisonRows
  split
  · exact s.writePoison_wf _ _ _ h
  · exact State.writePoison_wf _ _ _ _ (s.writePoison_wf _ _ _ h)

theorem State.strike_wf (s : State) (b : Bank) (r : PhysRow) (n : LineNo) (bits : List BitPos)
    (h : s.array.wf = true) : (s.strike b r n bits).array.wf = true :=
  s.writeCell_wf b r n _ h

end Sys2Proof.Machine
end

