-- ==== Sys2Proof/Laws/PerInstr.lean ====
section
/-! SUPPORT. What is said of every command one by one: which commands can be ill formed, and by what. -/

namespace Sys2Proof.Laws.IllFormedOnlyByAWrite

/-- A command is ill formed only as a REGISTER_WRITE at an unaligned offset or at the offset of a register
whose write is a row of its own (R194), or as a BAD_COMMAND whose code names a command (R171). -/
def Statement (i : Instr) : Prop :=
  i.wellFormed = false ↔
    (∃ o w, i = .registerWrite o w ∧ (o.toNat % 4 ≠ 0 ∨ o ∈ ownRowOffsets)) ∨
      ∃ code, i = .badCommand code ∧ namesCommand code = true

/-- A well-formed command that is neither of the two. -/
theorem of_wellFormed {i : Instr} (h : i.wellFormed = true) (hr : ∀ o w, i ≠ .registerWrite o w)
    (hb : ∀ code, i ≠ .badCommand code) : Statement i :=
  ⟨fun hf => absurd (h.symm.trans hf) Bool.noConfusion, fun hc => hc.elim
    (fun ⟨o, w, e, _⟩ => absurd e (hr o w)) fun ⟨code, e, _⟩ => absurd e (hb code)⟩

theorem powerOn : Statement .powerOn := of_wellFormed rfl nofun nofun
theorem powerLoss : Statement .powerLoss := of_wellFormed rfl nofun nofun
theorem rstAssert : Statement .rstAssert := of_wellFormed rfl nofun nofun
theorem rstRelease : Statement .rstRelease := of_wellFormed rfl nofun nofun
theorem bitChange (bank : Bank) (row : PhysRow) (line : LineNo) (pos : BitPos) :
    Statement (.bitChange bank row line pos) :=
  of_wellFormed rfl nofun nofun
theorem loadingEnd : Statement .loadingEnd := of_wellFormed rfl nofun nofun
theorem arrayInitEnd : Statement .arrayInitEnd := of_wellFormed rfl nofun nofun
theorem restartingEnd : Statement .restartingEnd := of_wellFormed rfl nofun nofun
theorem refreshTimerExpiry : Statement .refreshTimerExpiry := of_wellFormed rfl nofun nofun
theorem stepTimerExpiry : Statement .stepTimerExpiry := of_wellFormed rfl nofun nofun
theorem readLine (bank : Bank) : Statement (.readLine bank) := of_wellFormed rfl nofun nofun
theorem writeLine (bank : Bank) : Statement (.writeLine bank) := of_wellFormed rfl nofun nofun
theorem mergeLine (bank : Bank) : Statement (.mergeLine bank) := of_wellFormed rfl nofun nofun
theorem scrubLine (bank : Bank) : Statement (.scrubLine bank) := of_wellFormed rfl nofun nofun
theorem copyLine (bank : Bank) (struck : List BitPos) :
    Statement (.copyLine bank struck) :=
  of_wellFormed rfl nofun nofun
theorem clearLine (bank : Bank) : Statement (.clearLine bank) := of_wellFormed rfl nofun nofun
theorem refresh (bank : Bank) : Statement (.refresh bank) := of_wellFormed rfl nofun nofun
theorem dispatch : Statement .dispatch := of_wellFormed rfl nofun nofun
theorem copyRequestPlace : Statement .copyRequestPlace := of_wellFormed rfl nofun nofun
theorem autoSelection : Statement .autoSelection := of_wellFormed rfl nofun nofun
theorem clearLinePlace : Statement .clearLinePlace := of_wellFormed rfl nofun nofun
theorem burnAttemptEnd (passed : Bool) : Statement (.burnAttemptEnd passed) := of_wellFormed rfl nofun nofun
theorem retentionExitEnd : Statement .retentionExitEnd := of_wellFormed rfl nofun nofun
theorem submit (w : Word) : Statement (.submit w) := of_wellFormed rfl nofun nofun
theorem bufDataRead : Statement .bufDataRead := of_wellFormed rfl nofun nofun
theorem bufDataWrite (w : Word) : Statement (.bufDataWrite w) := of_wellFormed rfl nofun nofun
theorem cplPop (w : Word) : Statement (.cplPop w) := of_wellFormed rfl nofun nofun
theorem uerPop (w : Word) : Statement (.uerPop w) := of_wellFormed rfl nofun nofun
theorem frtEntryARead : Statement .frtEntryARead := of_wellFormed rfl nofun nofun
theorem evtAck (w : Word) : Statement (.evtAck w) := of_wellFormed rfl nofun nofun
theorem evtMask (w : Word) : Statement (.evtMask w) := of_wellFormed rfl nofun nofun
theorem hptConfig (w : Word) : Statement (.hptConfig w) := of_wellFormed rfl nofun nofun
theorem ptlInterval (w : Word) : Statement (.ptlInterval w) := of_wellFormed rfl nofun nofun
theorem registerWrite (offset : BitVec 8) (w : Word) : Statement (.registerWrite offset w) := by
  simp [Statement, Instr.wellFormed]
  tauto
theorem clearBank : Statement .clearBank := of_wellFormed rfl nofun nofun
theorem migrateRow : Statement .migrateRow := of_wellFormed rfl nofun nofun
theorem abortMigration : Statement .abortMigration := of_wellFormed rfl nofun nofun
theorem burnRow : Statement .burnRow := of_wellFormed rfl nofun nofun
theorem hold : Statement .hold := of_wellFormed rfl nofun nofun
theorem release : Statement .release := of_wellFormed rfl nofun nofun
theorem enterRetention : Statement .enterRetention := of_wellFormed rfl nofun nofun
theorem exitRetention : Statement .exitRetention := of_wellFormed rfl nofun nofun
theorem dropRecord : Statement .dropRecord := of_wellFormed rfl nofun nofun
theorem restartPatrol : Statement .restartPatrol := of_wellFormed rfl nofun nofun
theorem badCommand (code : BitVec 8) : Statement (.badCommand code) := by
  simp [Statement, Instr.wellFormed]

end Sys2Proof.Laws.IllFormedOnlyByAWrite
end

