-- ==== Sys2Proof/Laws/Search.lean ====
section
/-! SUPPORT. What each search of the model finds: the lowest index that passes a test, the next line of a
bank clear, the next position of patrol. -/

namespace Sys2Proof.Machine

/-! ### The lowest index that passes a test -/

theorem finRange_find?_eq_some_iff {n : Nat} {p : Fin n → Bool} {i : Fin n} :
    (List.finRange n).find? p = some i ↔ p i = true ∧ ∀ j < i, p j = false := by
  rw [List.find?_eq_some_iff_getElem]
  constructor
  · rintro ⟨hp, k, hk, hki, hlow⟩
    refine ⟨hp, fun j hj => ?_⟩
    have hj' : j.val < k := by
      have : k = i.val := by have := congrArg Fin.val hki; simpa using this
      omega
    have := hlow j.val hj'
    simpa using this
  · rintro ⟨hp, hlow⟩
    refine ⟨hp, i.val, by simp, by simp, fun j hj => ?_⟩
    have := hlow ⟨j, by omega⟩ (Fin.lt_def.mpr hj)
    simpa using this

theorem finRange_find?_eq_none_iff {n : Nat} {p : Fin n → Bool} :
    (List.finRange n).find? p = none ↔ ∀ i, p i = false := by
  simp [List.find?_eq_none]

/-- RMP's choice of a target is the lowest FREE spare (R82). -/
theorem BankRemap.lowestFree?_eq_some_iff {m : BankRemap} {t : SpareIdx} :
    m.lowestFree? = some t ↔ lowestFree m t := by
  simp [BankRemap.lowestFree?, finRange_find?_eq_some_iff, lowestFree]

theorem BankRemap.lowestFree?_eq_none_iff {m : BankRemap} : m.lowestFree? = none ↔ noFree m := by
  simp [BankRemap.lowestFree?, noFree]

theorem BankRemap.freeCount_eq_zero_iff {m : BankRemap} : m.freeCount = 0 ↔ noFree m := by
  simp only [BankRemap.freeCount, noFree, List.count_eq_zero, BankRemap.spare]
  constructor
  · intro h i hi
    apply h
    rw [Vector.mem_toList_iff, ← hi]
    exact Vector.getElem_mem i.isLt
  · intro h hm
    rw [Vector.mem_toList_iff] at hm
    obtain ⟨i, hi, e⟩ := Vector.getElem_of_mem hm
    exact h ⟨i, hi⟩ e

/-- An attempt begins on the lowest BLANK slot (R154). -/
theorem RepairStore.lowestBlank?_eq_some_iff {p : RepairStore} {i : Fin 48} :
    p.lowestBlank? = some i ↔ p.slot i = .blank ∧ ∀ j < i, p.slot j ≠ .blank := by
  have hb : ∀ v : StoreSlot, v.isBlank = true ↔ v = .blank := by intro v; cases v <;> simp [StoreSlot.isBlank]
  simp only [RepairStore.lowestBlank?, finRange_find?_eq_some_iff, hb, ← Bool.not_eq_true]

theorem RepairStore.lowestBlank?_eq_none_iff {p : RepairStore} :
    p.lowestBlank? = none ↔ ∀ i, p.slot i ≠ .blank := by
  have hb : ∀ v : StoreSlot, v.isBlank = true ↔ v = .blank := by intro v; cases v <;> simp [StoreSlot.isBlank]
  simp only [RepairStore.lowestBlank?, finRange_find?_eq_none_iff, ← Bool.not_eq_true, hb, ne_eq]

/-- A new record goes to the lowest empty slot (R125). -/
theorem FaultTable.lowestEmpty?_eq_some_iff {f : FaultTable} {i : Fin 32} :
    f.lowestEmpty? = some i ↔ f.slot i = none ∧ ∀ j < i, f.slot j ≠ none := by
  simp [FaultTable.lowestEmpty?, finRange_find?_eq_some_iff, Option.isSome_iff_ne_none]

theorem FaultTable.lowestEmpty?_eq_none_iff {f : FaultTable} :
    f.lowestEmpty? = none ↔ ∀ i, f.slot i ≠ none := by
  simp [FaultTable.lowestEmpty?]

/-- A slot found by bank and row holds a record of that bank and row (R122). -/
theorem FaultTable.slot_of_slotOf? {f : FaultTable} {b : Bank} {p : PhysRow} {i : Fin 32}
    (h : f.slotOf? b p = some i) : ∃ r, f.slot i = some r ∧ r.bank = b ∧ r.row = p := by
  rw [FaultTable.slotOf?, finRange_find?_eq_some_iff] at h
  cases hs : f.slot i with
  | none => simp [hs] at h
  | some r =>
    have := h.1
    simp only [hs, Bool.and_eq_true, beq_iff_eq] at this
    exact ⟨r, rfl, this⟩

theorem FaultTable.slotOf?_eq_none_iff {f : FaultTable} {b : Bank} {p : PhysRow} :
    f.slotOf? b p = none ↔ ∀ i r, f.slot i = some r → ¬(r.bank = b ∧ r.row = p) := by
  rw [FaultTable.slotOf?, finRange_find?_eq_none_iff]
  constructor
  · intro h i r hr
    have := h i
    rw [hr] at this
    simpa using this
  · intro h i
    cases hs : f.slot i with
    | none => rfl
    | some r => simpa using h i r hs

/-! ### The MIGRATING record (R123) -/

theorem FaultTable.slot_of_migratingSlot? {f : FaultTable} {i : Fin 32} (h : f.migratingSlot? = some i) :
    ∃ r, f.slot i = some r ∧ r.state = .migrating := by
  rw [FaultTable.migratingSlot?, finRange_find?_eq_some_iff] at h
  cases hs : f.slot i with
  | none => simp [hs] at h
  | some r =>
    have := h.1
    simp only [hs, beq_iff_eq] at this
    exact ⟨r, rfl, this⟩

theorem FaultTable.migratingSlot?_eq_none_iff {f : FaultTable} :
    f.migratingSlot? = none ↔ ∀ i r, f.slot i = some r → r.state ≠ .migrating := by
  rw [FaultTable.migratingSlot?, finRange_find?_eq_none_iff]
  constructor
  · intro h i r hr
    have := h i
    rw [hr] at this
    simpa using this
  · intro h i
    cases hs : f.slot i with
    | none => rfl
    | some r => simpa using h i r hs

/-! ### The next line of a bank clear (R176) -/

/-- The search by rows finds the first cleared row from row `k` on. -/
theorem clearRowFrom_eq_some {m : BankRemap} {fuel k : Nat} {r : PhysRow}
    (h : clearRowFrom m fuel k = some r) :
    k ≤ r.val ∧ m.cleared r = true ∧ ∀ q : PhysRow, k ≤ q.val → q.val < r.val → m.cleared q = false := by
  induction fuel generalizing k with
  | zero => simp [clearRowFrom] at h
  | succ fuel ih =>
    by_cases hk : k < 8208
    · simp only [clearRowFrom, physRow?, hk, ↓reduceDIte] at h
      split at h
      · rename_i hc
        cases h
        exact ⟨le_refl _, hc, fun q h1 h2 => absurd h1 (by simpa using h2)⟩
      · rename_i hc
        obtain ⟨h1, h2, h3⟩ := ih h
        refine ⟨by omega, h2, fun q hq hqr => ?_⟩
        by_cases he : q.val = k
        · have : q = ⟨k, hk⟩ := Fin.ext he
          simpa [this] using hc
        · exact h3 q (by omega) hqr
    · simp [clearRowFrom, physRow?, hk] at h

/-- The search by rows finds nothing only where no row from row `k` on is cleared. -/
theorem clearRowFrom_eq_none {m : BankRemap} {fuel k : Nat} (hf : 8208 ≤ k + fuel)
    (h : clearRowFrom m fuel k = none) : ∀ q : PhysRow, k ≤ q.val → m.cleared q = false := by
  induction fuel generalizing k with
  | zero => exact fun q hq => absurd q.isLt (by omega)
  | succ fuel ih =>
    by_cases hk : k < 8208
    · simp only [clearRowFrom, physRow?, hk, ↓reduceDIte] at h
      split at h
      · simp at h
      · rename_i hc
        intro q hq
        by_cases he : q.val = k
        · have : q = ⟨k, hk⟩ := Fin.ext he
          simpa [this] using hc
        · exact ih (by omega) h q (by omega)
    · exact fun q hq => absurd q.isLt (by omega)

theorem RowLine.number_inj {p q : RowLine} (h : p.number = q.number) : p = q := by
  obtain ⟨⟨r, hr⟩, ⟨n, hn⟩⟩ := p
  obtain ⟨⟨r', hr'⟩, ⟨n', hn'⟩⟩ := q
  simp only [RowLine.number] at h
  have h1 : r = r' := by omega
  have h2 : n = n' := by omega
  subst h1 h2
  rfl

theorem firstCleared_unique {m : BankRemap} {k : Nat} {p q : RowLine} (hp : firstCleared m k p)
    (hq : firstCleared m k q) : p = q := by
  apply RowLine.number_inj
  rcases Nat.lt_trichotomy p.number q.number with h | h | h
  · have := hq.2.2 p hp.1 h
    simp [hp.2.1] at this
  · exact h
  · have := hp.2.2 q hq.1 h
    simp [hq.2.1] at this

/-- The search from a row on gives the first line that the clear writes, where no line of the row before it
from number `k` on is written. -/
theorem firstCleared_of_rows {m : BankRemap} {k : Nat} {p r : PhysRow} (hk : p.val * 32 ≤ k)
    (hk' : k ≤ (p.val + 1) * 32) (hp : k < (p.val + 1) * 32 → m.cleared p = false)
    (h : clearRowFrom m 8208 (p.val + 1) = some r) : firstCleared m k ⟨r, 0⟩ := by
  obtain ⟨h1, h2, h3⟩ := clearRowFrom_eq_some h
  refine ⟨by simp only [RowLine.number, Fin.val_zero]; omega, h2, fun q hq1 hq2 => ?_⟩
  simp only [RowLine.number, Fin.val_zero, Nat.add_zero] at hq1 hq2
  by_cases he : q.row = p
  · rw [he]
    rw [he] at hq1
    exact hp (by omega)
  · have : q.row.val ≠ p.val := fun e => he (Fin.ext e)
    exact h3 q.row (by omega) (by omega)

theorem noneCleared_of_rows {m : BankRemap} {k : Nat} {p : PhysRow} (hk : p.val * 32 ≤ k)
    (hp : k < (p.val + 1) * 32 → m.cleared p = false)
    (h : clearRowFrom m 8208 (p.val + 1) = none) (q : RowLine) (hq : k ≤ q.number) :
    m.cleared q.row = false := by
  simp only [RowLine.number] at hq
  by_cases he : q.row = p
  · rw [he]
    rw [he] at hq
    exact hp (by omega)
  · have : q.row.val ≠ p.val := fun e => he (Fin.ext e)
    exact clearRowFrom_eq_none (by omega) h q.row (by omega)

/-- The position that a clear places is the first one that it writes from `p` on (R176). -/
theorem clearAt_eq_some_iff {m : BankRemap} {p q : RowLine} :
    clearAt m p = some q ↔ firstCleared m p.number q := by
  have key : ∀ q, clearAt m p = some q → firstCleared m p.number q := by
    intro q h
    simp only [clearAt] at h
    split at h
    · rename_i hc
      cases h
      exact ⟨le_refl _, hc, fun q h1 h2 => absurd h1 (by omega)⟩
    · rename_i hc
      cases hr : clearRowFrom m 8208 (p.row.val + 1) with
      | none => simp [hr] at h
      | some r =>
        simp only [hr, Option.map_some, Option.some.injEq] at h
        subst h
        exact firstCleared_of_rows (by simp only [RowLine.number]; omega)
          (by simp only [RowLine.number]; omega) (fun _ => by simpa using hc) hr
  refine ⟨key q, fun h => ?_⟩
  cases hc : clearAt m p with
  | some r => rw [firstCleared_unique (key r hc) h]
  | none =>
    exfalso
    simp only [clearAt] at hc
    split at hc
    · simp at hc
    · rename_i hp
      simp only [Option.map_eq_none_iff] at hc
      have := noneCleared_of_rows (k := p.number) (by simp only [RowLine.number]; omega)
        (fun _ => by simpa using hp) hc q h.1
      simp [h.2.1] at this

/-- The position that a clear moves on to is the first one that it writes after `p` (R176). -/
theorem clearAfter_eq_some_iff {m : BankRemap} {p q : RowLine} :
    clearAfter m p = some q ↔ firstCleared m (p.number + 1) q := by
  by_cases hl : p.line.val < 31
  · simp only [clearAfter, hl, ↓reduceDIte]
    rw [clearAt_eq_some_iff]
    simp only [RowLine.number, Nat.add_assoc]
  · have key : ∀ q, clearAfter m p = some q → firstCleared m (p.number + 1) q := by
      intro q h
      simp only [clearAfter, hl, ↓reduceDIte] at h
      cases hr : clearRowFrom m 8208 (p.row.val + 1) with
      | none => simp [hr] at h
      | some r =>
        simp only [hr, Option.map_some, Option.some.injEq] at h
        subst h
        exact firstCleared_of_rows (by simp only [RowLine.number]; omega)
          (by simp only [RowLine.number]; omega) (fun h => by simp only [RowLine.number] at h; omega) hr
    refine ⟨key q, fun h => ?_⟩
    cases hc : clearAfter m p with
    | some r => rw [firstCleared_unique (key r hc) h]
    | none =>
      exfalso
      simp only [clearAfter, hl, ↓reduceDIte, Option.map_eq_none_iff] at hc
      have := noneCleared_of_rows (k := p.number + 1) (by simp only [RowLine.number]; omega)
        (fun h => by simp only [RowLine.number] at h; omega) hc q h.1
      simp [h.2.1] at this

/-- The clear ends when no line after `p` is left to write (R177). -/
theorem clearAfter_eq_none_iff {m : BankRemap} {p : RowLine} :
    clearAfter m p = none ↔ ∀ q : RowLine, p.number + 1 ≤ q.number → m.cleared q.row = false := by
  constructor
  · intro h q hq
    by_cases hl : p.line.val < 31
    · simp only [clearAfter, hl, ↓reduceDIte, clearAt] at h
      split at h
      · simp at h
      · rename_i hp
        simp only [Option.map_eq_none_iff] at h
        exact noneCleared_of_rows (k := p.number + 1) (by simp only [RowLine.number]; omega)
          (fun _ => by simpa using hp) h q hq
    · simp only [clearAfter, hl, ↓reduceDIte, Option.map_eq_none_iff] at h
      exact noneCleared_of_rows (k := p.number + 1) (by simp only [RowLine.number]; omega)
        (fun h => by simp only [RowLine.number] at h; omega) h q hq
  · intro h
    cases hc : clearAfter m p with
    | none => rfl
    | some q =>
      obtain ⟨h1, h2, _⟩ := clearAfter_eq_some_iff.mp hc
      simp [h q h1] at h2

/-! ### Positions of patrol (R138) -/

theorem Position.number_inj {p q : Position} (h : p.number = q.number) : p = q := by
  obtain ⟨⟨r, hr⟩, ⟨b, hb⟩, ⟨n, hn⟩⟩ := p
  obtain ⟨⟨r', hr'⟩, ⟨b', hb'⟩, ⟨n', hn'⟩⟩ := q
  simp only [Position.number] at h
  have h1 : r = r' := by omega
  have h2 : b = b' := by omega
  have h3 : n = n' := by omega
  subst h1 h2 h3
  rfl

theorem positionAt_eq_some {k : Nat} {p : Position} (h : positionAt k = some p) :
    p.number = k * 32 ∧ p.line = 0 ∧ k < 65664 := by
  simp only [positionAt] at h
  split at h
  · rename_i hk
    cases h
    simp only [pairCount] at hk
    simp only [Position.number, pairRow, pairBank, Fin.val_zero]
    exact ⟨by omega, trivial, hk⟩
  · simp at h

/-- The position after one is the next in number; after the last there is none (R138). -/
theorem Position.next_eq_some_iff {p q : Position} : p.next = some q ↔ q.number = p.number + 1 := by
  have hp := p.row.isLt
  have hb := p.bank.isLt
  have key : ∀ q, p.next = some q → q.number = p.number + 1 := by
    intro q h
    simp only [Position.next] at h
    split at h
    · cases h
      simp only [Position.number]
      omega
    · have := (positionAt_eq_some h).1
      simp only [pairIndex] at this
      rw [this]
      simp only [Position.number]
      omega
  refine ⟨key q, fun h => ?_⟩
  cases hn : p.next with
  | some r => rw [Position.number_inj ((key r hn).trans h.symm)]
  | none =>
    exfalso
    simp only [Position.next] at hn
    split at hn
    · simp at hn
    · simp only [positionAt] at hn
      split at hn
      · simp at hn
      · rename_i hk
        simp only [pairCount, pairIndex] at hk
        simp only [Position.number] at h
        have := q.row.isLt
        have := q.bank.isLt
        omega

theorem Position.next_eq_none_iff {p : Position} : p.next = none ↔ p = ⟨8207, 7, 31⟩ := by
  constructor
  · intro hn
    apply Position.number_inj
    have hp := p.row.isLt
    simp only [Position.next] at hn
    split at hn
    · simp at hn
    · simp only [positionAt] at hn
      split at hn
      · simp at hn
      · rename_i hl hk
        simp only [pairCount, pairIndex] at hk
        simp only [Position.number]
        show _ = (8207 * 8 + 7) * 32 + 31
        omega
  · rintro rfl
    decide

theorem firstPatrolled_unique {s : State} {k : Nat} {p q : Position} (hp : firstPatrolled s k p)
    (hq : firstPatrolled s k q) : p = q := by
  apply Position.number_inj
  rcases Nat.lt_trichotomy p.number q.number with h | h | h
  · have := hq.2.2 p hp.1 h
    simp [hp.2.1] at this
  · exact h
  · have := hp.2.2 q hq.1 h
    simp [hq.2.1] at this

/-- The search of R141 from the row and bank numbered `k` on. -/
theorem searchFrom_eq_some {s : State} {fuel k : Nat} {p : Position} (h : searchFrom s fuel k = some p) :
    firstPatrolled s (k * 32) p := by
  induction fuel generalizing k with
  | zero => simp [searchFrom] at h
  | succ fuel ih =>
    simp only [searchFrom] at h
    split at h
    · simp at h
    · rename_i r hr
      obtain ⟨h1, h2, _⟩ := positionAt_eq_some hr
      split at h
      · rename_i hc
        cases h
        exact ⟨h1.ge, hc, fun q hq1 hq2 => absurd hq1 (by omega)⟩
      · rename_i hc
        obtain ⟨i1, i2, i3⟩ := ih h
        refine ⟨by omega, i2, fun q hq1 hq2 => ?_⟩
        by_cases hq : (k + 1) * 32 ≤ q.number
        · exact i3 q hq hq2
        · have e1 : q.row = r.row := Fin.ext (by
            rw [h2] at *
            simp only [Position.number] at *
            omega)
          have e2 : q.bank = r.bank := Fin.ext (by
            rw [h2] at *
            simp only [Position.number] at *
            omega)
          rw [e1, e2]
          simpa using hc

theorem searchFrom_eq_none {s : State} {fuel k : Nat} (hf : 65664 ≤ k + fuel)
    (h : searchFrom s fuel k = none) (q : Position) (hq : k * 32 ≤ q.number) :
    patrolled s q.row q.bank = false := by
  have hr := q.row.isLt
  have hb := q.bank.isLt
  have hn := q.line.isLt
  induction fuel generalizing k with
  | zero =>
    simp only [Position.number] at hq
    omega
  | succ fuel ih =>
    simp only [searchFrom] at h
    split at h
    · rename_i hp
      simp only [positionAt] at hp
      split at hp
      · simp at hp
      · rename_i hk
        simp only [pairCount] at hk
        simp only [Position.number] at hq
        omega
    · rename_i r hr'
      obtain ⟨h1, h2, _⟩ := positionAt_eq_some hr'
      split at h
      · simp at h
      · rename_i hc
        by_cases hq' : (k + 1) * 32 ≤ q.number
        · exact ih (by omega) h hq'
        · have e1 : q.row = r.row := Fin.ext (by
            simp only [Position.number, h2, Fin.val_zero] at *
            omega)
          have e2 : q.bank = r.bank := Fin.ext (by
            simp only [Position.number, h2, Fin.val_zero] at *
            omega)
          rw [e1, e2]
          simpa using hc

/-- The search up to the last position finds the first position from the cursor on (R141). -/
theorem searchAhead_eq_some {s : State} {p : Position} (h : searchAhead s = some p) :
    firstPatrolled s s.ptl.cursor.number p := by
  simp only [searchAhead] at h
  split at h
  · rename_i hc
    cases h
    exact ⟨le_refl _, hc, fun q h1 h2 => absurd h1 (by omega)⟩
  · rename_i hc
    obtain ⟨h1, h2, h3⟩ := searchFrom_eq_some h
    have hn := s.ptl.cursor.line.isLt
    refine ⟨by simp only [Position.number, pairIndex] at *; omega, h2, fun q hq1 hq2 => ?_⟩
    by_cases hq : (pairIndex s.ptl.cursor.row s.ptl.cursor.bank + 1) * 32 ≤ q.number
    · exact h3 q hq hq2
    · have hqn := q.line.isLt
      have hqb := q.bank.isLt
      have hcb := s.ptl.cursor.bank.isLt
      have e1 : q.row = s.ptl.cursor.row := Fin.ext (by
        simp only [Position.number, pairIndex] at *
        omega)
      have e2 : q.bank = s.ptl.cursor.bank := Fin.ext (by
        simp only [Position.number, pairIndex] at *
        omega)
      rw [e1, e2]
      simpa using hc

theorem searchAhead_eq_none {s : State} (h : searchAhead s = none) (q : Position)
    (hq : s.ptl.cursor.number ≤ q.number) : patrolled s q.row q.bank = false := by
  simp only [searchAhead] at h
  split at h
  · simp at h
  · rename_i hc
    by_cases hq' : (pairIndex s.ptl.cursor.row s.ptl.cursor.bank + 1) * 32 ≤ q.number
    · exact searchFrom_eq_none (by simp only [pairCount]; omega) h q hq'
    · have hqn := q.line.isLt
      have hqb := q.bank.isLt
      have hcb := s.ptl.cursor.bank.isLt
      have hcn := s.ptl.cursor.line.isLt
      have e1 : q.row = s.ptl.cursor.row := Fin.ext (by
        simp only [Position.number, pairIndex] at *
        omega)
      have e2 : q.bank = s.ptl.cursor.bank := Fin.ext (by
        simp only [Position.number, pairIndex] at *
        omega)
      rw [e1, e2]
      simpa using hc

/-- The search from the start finds the first position of the array (R141). -/
theorem searchAgain_eq_some {s : State} {p : Position} (h : searchAgain s = some p) :
    firstPatrolled s 0 p := by
  have := searchFrom_eq_some h
  simpa using this

theorem searchAgain_eq_none {s : State} (h : searchAgain s = none) (q : Position) :
    patrolled s q.row q.bank = false :=
  searchFrom_eq_none (by simp [pairCount]) h q (by omega)

end Sys2Proof.Machine
end

