-- ==== Sys2Proof/Laws/Remap.lean ====
section
/-! SUPPORT. The entry of a row and the state of a spare after each edit of a bank's table, and what agreement
of entries and spares says of the PENDING entry. -/

namespace Sys2Proof.Machine

/-! ### Spares -/

theorem BankRemap.spare_setSpare (m : BankRemap) (i j : SpareIdx) (v : SpareState) :
    (m.setSpare i v).spare j = if j = i then v else m.spare j := by
  simp only [BankRemap.spare, BankRemap.setSpare, Fin.getElem_fin, Vector.getElem_set]
  by_cases h : j = i
  · simp [h]
  · have : i.val ≠ j.val := fun e => h (Fin.ext e.symm)
    simp [h, this]

@[simp] theorem BankRemap.entries_setSpare (m : BankRemap) (i : SpareIdx) (v : SpareState) :
    (m.setSpare i v).entries = m.entries := rfl
@[simp] theorem BankRemap.entry?_setSpare (m : BankRemap) (i : SpareIdx) (v : SpareState)
    (l : LogicalRow) : (m.setSpare i v).entry? l = m.entry? l := rfl
@[simp] theorem BankRemap.spare_update (m : BankRemap) (e : RemapEntry) (i : SpareIdx) :
    (m.update e).spare i = m.spare i := rfl
@[simp] theorem BankRemap.spare_remove (m : BankRemap) (l : LogicalRow) (i : SpareIdx) :
    (m.remove l).spare i = m.spare i := rfl
@[simp] theorem BankRemap.spare_insert (m : BankRemap) (e : RemapEntry) (i : SpareIdx) :
    (m.insert e).spare i = m.spare i := rfl

/-! ### Entries -/

/-- The entry found for a row is of that row. -/
theorem BankRemap.row_of_entry? {m : BankRemap} {l : LogicalRow} {e : RemapEntry}
    (h : m.entry? l = some e) : e.row = l := by
  have := List.find?_some h
  simpa using this

theorem BankRemap.mem_of_entry? {m : BankRemap} {l : LogicalRow} {e : RemapEntry}
    (h : m.entry? l = some e) : e ∈ m.entries := List.mem_of_find?_eq_some h

theorem BankRemap.entry?_eq_none_iff {m : BankRemap} {l : LogicalRow} :
    m.entry? l = none ↔ ∀ e ∈ m.entries, e.row ≠ l := by simp [BankRemap.entry?]

/-- With one entry for each row, an entry of the table is the entry of its row (R80). -/
theorem BankRemap.entry?_of_mem {m : BankRemap} {e : RemapEntry}
    (hn : (m.entries.map RemapEntry.row).Nodup) (h : e ∈ m.entries) : m.entry? e.row = some e := by
  cases hf : m.entry? e.row with
  | none => exact absurd rfl (BankRemap.entry?_eq_none_iff.mp hf e h)
  | some d => rw [List.inj_on_of_nodup_map hn (BankRemap.mem_of_entry? hf) h (BankRemap.row_of_entry? hf)]

theorem find?_update (es : List RemapEntry) (e : RemapEntry) (l : LogicalRow) :
    (es.map fun d => if d.row = e.row then e else d).find? (fun d => d.row == l) =
      if l = e.row then (es.find? fun d => d.row == l).map fun _ => e
      else es.find? fun d => d.row == l := by
  induction es with
  | nil => simp
  | cons d es ih =>
    by_cases hd : d.row = e.row <;> by_cases hl : d.row = l
    · subst hl
      simp [hd]
    · have : l ≠ e.row := fun h => hl (hd.trans h.symm)
      have h' : ¬e.row = l := fun h => this h.symm
      simp [hd, h', ih, this]
    · subst hl
      simp [hd]
    · simp [hd, hl, ih]

theorem BankRemap.entry?_update (m : BankRemap) (e : RemapEntry) (l : LogicalRow) :
    (m.update e).entry? l = if l = e.row then (m.entry? l).map fun _ => e else m.entry? l :=
  find?_update m.entries e l

theorem BankRemap.entry?_insert (m : BankRemap) (e : RemapEntry) (l : LogicalRow) :
    (m.insert e).entry? l = (m.entry? l).or (if e.row = l then some e else none) := by
  simp [BankRemap.entry?, BankRemap.insert, List.find?_append, List.find?_cons]
  split <;> simp_all

theorem BankRemap.entry?_remove (m : BankRemap) (k l : LogicalRow) :
    (m.remove k).entry? l = if l = k then none else m.entry? l := by
  simp only [BankRemap.entry?, BankRemap.remove, List.find?_filter]
  split
  · rename_i h
    subst h
    simp
  · rename_i h
    congr 1
    funext e
    by_cases he : e.row = l <;> simp [he, h]

/-! ### The PENDING entry -/

/-- The only PENDING entry of a bank is the one that the search finds. -/
theorem BankRemap.pending?_of_mem {m : BankRemap} {e : RemapEntry} (h : e ∈ m.entries)
    (hp : e.isPending = true) (hone : ∀ d ∈ m.entries, d.isPending = true → d = e) :
    m.pending? = some e := by
  cases hf : m.pending? with
  | none =>
    have := List.find?_eq_none.mp hf e h
    simp [hp] at this
  | some d =>
    rw [hone d (List.mem_of_find?_eq_some hf) (List.find?_some hf)]

theorem BankRemap.pending?_eq_none_iff {m : BankRemap} :
    m.pending? = none ↔ ∀ e ∈ m.entries, e.isPending = false := by
  simp [BankRemap.pending?]

/-- Where the engine's row has its PENDING entry, that is the only PENDING entry of the bank (R89). -/
theorem RemapInv.pending?_eq {s : State} (hs : RemapInv s) {b : Bank} {e : RemapEntry}
    (h : e ∈ (s.remap b).entries) (hp : e.isPending = true) : (s.remap b).pending? = some e := by
  refine BankRemap.pending?_of_mem h hp fun d hd hdp => ?_
  have h1 := (hs.pending b e.row).mp ⟨e, h, rfl, hp⟩
  have h2 := (hs.pending b d.row).mp ⟨d, hd, rfl, hdp⟩
  have : d.row = e.row := by
    revert h1 h2
    cases s.mig.state <;> simp only [EngineState.moves, false_implies]
    · rintro ⟨_, rfl⟩ ⟨_, h⟩
      exact h.symm
    · rintro ⟨_, rfl⟩ ⟨_, h⟩
      exact h.symm
  exact List.inj_on_of_nodup_map (hs.banks b).rows hd h this

/-- While the engine is IDLE no entry is PENDING (R89). -/
theorem RemapInv.pending?_eq_none {s : State} (hs : RemapInv s) (h : s.mig.state = .idle) (b : Bank) :
    (s.remap b).pending? = none := by
  rw [BankRemap.pending?_eq_none_iff]
  intro e he
  by_contra hp
  have := (hs.pending b e.row).mp ⟨e, he, rfl, by simpa using hp⟩
  simp [h, EngineState.moves] at this

end Sys2Proof.Machine
end

