-- ==== Sys2Proof/Laws/Sequencer.lean ====
section
/-! SUPPORT. What the arbiter of a bank can do: its choice, each grant, the discard of a stale step, and the
banks that it leaves as they stand. -/

namespace Sys2Proof.Machine

/-! ### The choice -/

/-- A chosen claim waits and is considered (R26). -/
theorem BankSection.of_choice {k : BankSection} {st : ControllerState} {c : Claim}
    (h : k.choice st = some c) : k.waits c = true ∧ k.considers st c = true := by
  have := List.find?_some h
  simpa using this

/-- Every claim that a bank in that condition can be granted stands in the arbiter's order. -/
theorem BankSection.mem_claimOrder {k : BankSection} {st : ControllerState} {c : Claim}
    (h : k.considers st c = true) : c ∈ k.claimOrder := by
  have hg : k.condition.grants c = true ∨ c.isRefresh = true := by
    cases st <;> simp [BankSection.considers] at h <;> simp_all
  unfold BankSection.claimOrder BankSection.agedOrder
  cases c <;> cases hc : k.condition <;> simp [hc, Condition.grants, Claim.isRefresh] at hg ⊢ <;>
    (repeat' split) <;> simp

/-- No choice: no claim both waits and is considered (R26). -/
theorem BankSection.choice_eq_none_iff {k : BankSection} {st : ControllerState} :
    k.choice st = none ↔ ∀ c : Claim, ¬(k.waits c = true ∧ k.considers st c = true) := by
  constructor
  · intro h c hc
    have := List.find?_eq_none.mp h c (BankSection.mem_claimOrder hc.2)
    simp [hc.1, hc.2] at this
  · intro h
    apply List.find?_eq_none.mpr
    intro c _
    simpa using h c

/-! ### Banks that are left as they stand -/

theorem grantHost_bank_ne (b : Bank) (q : Request) (s : State) : keepsOtherBanks b s (grantHost b q s) :=
  fun _ hc => State.bank_setBank_ne _ _ hc

theorem grantCopy_bank_ne (b : Bank) (s : State) : keepsOtherBanks b s (grantCopy b s) := by
  intro c hc
  unfold grantCopy
  split
  · simp only [runCopy_bank]
    exact State.bank_setBank_ne _ _ hc
  · rfl

theorem grantStep_bank_ne (b : Bank) (p : RowLine) (s : State) : keepsOtherBanks b s (grantStep b p s) := by
  intro c hc
  simp only [grantStep, runStep_bank]
  exact State.bank_setBank_ne _ _ hc

theorem grantClear_bank_ne (b : Bank) (p : RowLine) (s : State) : keepsOtherBanks b s (grantClear b p s) :=
  fun _ hc => State.bank_setBank_ne _ _ hc

theorem grantRefresh_bank_ne (b : Bank) (s : State) : keepsOtherBanks b s (grantRefresh b s) :=
  fun _ hc => State.bank_setBank_ne _ _ hc

theorem grant_bank_ne (b : Bank) (v : Claim) (s : State) : keepsOtherBanks b s (grant b v s) := by
  intro c hc
  cases v <;> simp only [grant]
  · exact grantRefresh_bank_ne b s c hc
  · split
    · exact grantClear_bank_ne b _ s c hc
    · rfl
  · split
    · exact grantHost_bank_ne b _ s c hc
    · rfl
  · exact grantCopy_bank_ne b s c hc
  · split
    · exact grantStep_bank_ne b _ s c hc
    · rfl
  · exact grantRefresh_bank_ne b s c hc

theorem serve_bank_ne (b : Bank) (s : State) : keepsOtherBanks b s (serve b s) := by
  intro c hc
  unfold serve
  split
  · exact grant_bank_ne b _ s c hc
  · rfl

theorem discardStep_bank_ne (b : Bank) (s : State) : keepsOtherBanks b s (discardStep b s) := by
  intro c hc
  simp only [discardStep, stepEnds_bank]
  exact State.bank_setBank_ne _ _ hc

/-- The arbiter of a bank leaves every other bank as it stands. -/
theorem arbitrate_bank_ne (b : Bank) (s : State) : keepsOtherBanks b s (arbitrate b s) := by
  intro c hc
  unfold arbitrate
  split
  · split
    · rw [serve_bank_ne b _ c hc, discardStep_bank_ne b s c hc]
    · exact serve_bank_ne b s c hc
  · rfl

theorem retainBank_bank_ne (b : Bank) (s : State) : keepsOtherBanks b s (retainBank b s) := by
  intro c hc
  simp only [retainBank]
  split
  · rw [enterRetained_bank]
    exact State.bank_setBank_ne _ _ hc
  · exact State.bank_setBank_ne _ _ hc

/-- What a bank does next after its operation leaves every other bank as it stands. -/
theorem settleBank_bank_ne (b : Bank) (s : State) : keepsOtherBanks b s (settleBank b s) := by
  intro c hc
  unfold settleBank
  split
  · exact retainBank_bank_ne b s c hc
  · exact arbitrate_bank_ne b s c hc

theorem idleBank_bank_ne (b : Bank) (s : State) : keepsOtherBanks b s (idleBank b s) :=
  fun _ hc => State.bank_setBank_ne _ _ hc

@[simp] theorem idleBank_bank (b : Bank) (s : State) :
    (idleBank b s).bank b = { s.bank b with phase := .idle } := by
  simp [idleBank]

@[simp] theorem discardStep_bank (b : Bank) (s : State) :
    (discardStep b s).bank b = { s.bank b with patrolSlot := none, patrolAge := 0 } := by
  simp [discardStep]

/-! ### When there is no choice to make -/

/-- A bank that is BUSY or RETAINED grants nothing (R21). -/
theorem arbitrate_of_not_idle {b : Bank} {s : State} (h : (s.bank b).phase ≠ .idle) : arbitrate b s = s := by
  simp [arbitrate, h]

/-- A choice that does not fall on a stale step is granted as it stands (R26). -/
theorem arbitrate_of_choice {b : Bank} {s : State} {c : Claim} (hp : (s.bank b).phase = .idle)
    (h : (s.bank b).choice s.hpt.state = some c) (hc : staleChosen b s = false) :
    arbitrate b s = grant b c s := by
  simp [arbitrate, hp, hc, serve, h]

/-- A choice other than the patrol step is never stale. -/
theorem staleChosen_of_ne {b : Bank} {s : State} (h : (s.bank b).choice s.hpt.state ≠ some .patrol) :
    staleChosen b s = false := by
  simp [staleChosen, h]

/-- Without a claim to grant an IDLE bank stays as it stands. -/
theorem arbitrate_of_no_choice {b : Bank} {s : State} (h : (s.bank b).choice s.hpt.state = none) :
    arbitrate b s = s := by
  unfold arbitrate
  split
  · rw [staleChosen_of_ne (by simp [h])]
    simp [serve, h]
  · rfl

end Sys2Proof.Machine
end

