-- ==== Sys2Proof/Tests/Slice0.lean ====
section
/-! SUPPORT. The model's own tests: the well-formedness check, one step from the specification's tables for
each family of commands, and for every statement with hypotheses a state and operands that meet them. -/

namespace Sys2Proof.Tests

open Sys2Proof.Machine

/-! ### Small states -/

/-- The state after a command. -/
def run (c : Instr) (s : State) : State :=
  match exec c s with
  | .next t => t
  | _ => s

/-- READY after start, every bank UNFORMATTED and IDLE. -/
def up : State := { State.reset with hpt := ⟨.ready, 4, false⟩, refreshTimer := .running }

/-- The state with the controller in another state. -/
def inState (v : ControllerState) (s : State) : State := { s with hpt := { s.hpt with state := v } }

/-- The state with the section of bank 3 edited. -/
def at3 (f : BankSection → BankSection) (s : State) : State := s.setBank 3 (f (s.bank 3))

/-- READY, with bank 3 FORMATTED. -/
def formatted : State := at3 (fun k => { k with condition := .formatted }) up

/-- Bank 3 BUSY with an operation. -/
def busy (op : Operation) (s : State := formatted) : State :=
  at3 (fun k => { k with phase := .busy op .deliver }) s

/-- Words that count up from `n`. -/
def words (n : Nat) : LineWords := Vector.ofFn fun i => BitVec.ofNat 32 (n + i.val)

/-- A READ of bank 3, row 5, line 31, into buffer 2. -/
def read5 : Request := ⟨0x11, .read, 3, 5, 31, 2⟩

/-- A WRITE of the same line from buffer 2, with a word mask. -/
def write5 (mask : BitVec 8) : Request := ⟨0x22, .write mask, 3, 5, 31, 2⟩

/-- Row 5 of bank 3, alone and with spare 0 as target. -/
def row5 : Rows := ⟨5, none⟩
def row5and0 : Rows := ⟨5, some 8192⟩

/-- A state with one line of bank 3 in a given form. -/
def withLine (r : PhysRow) (n : LineNo) (c : LineCell) (s : State) : State := s.writeCell 3 r n c

/-- A request held IN_FLIGHT, its buffer LOCKED. -/
def inFlight (q : Request) (s : State := formatted) : State :=
  { s with
    req := { s.req with held := [⟨q, .inFlight⟩] }
    buf := s.buf.setLine q.buffer ⟨.locked, words 7⟩ }

/-! ### The well-formedness check -/

theorem test_unaligned_write_ill_formed : (Instr.registerWrite 0x22 0).wellFormed = false := by decide
theorem test_own_row_write_ill_formed : (Instr.registerWrite 0x48 1).wellFormed = false := by decide
theorem test_named_code_ill_formed : (Instr.badCommand 10).wellFormed = false := by decide
theorem test_unnamed_codes_well_formed :
    (Instr.badCommand 0).wellFormed = true ∧ (Instr.badCommand 11).wellFormed = true := by decide
theorem test_plain_write_well_formed : (Instr.registerWrite 0x20 7).wellFormed = true := by decide

/-- No row of the table gives a command bits, so no word spells one (log entry 3). -/
theorem test_no_word_spells_a_command : decodeTableWord 32 0x48 = none := by decide

/-! ### One step, with the values of the specification's tables -/

/-- R164: power-on leads to STARTING in LOADING, whose HPT_STATE reads 0. -/
theorem test_power_on : (run .powerOn (run .powerLoss up)).powered = true ∧
    readRegister (run .powerOn (run .powerLoss up)) 0x04 = 0 := by decide

/-- R160: LOADING's end is ARRAY_INIT, which HPT_STATE shows in bit 4. -/
theorem test_loading_end : readRegister (run .loadingEnd .reset) 0x04 = 0x10 := by decide

/-- R164: the end of ARRAY_INIT is READY (code 3), with the event READY in bit 17. -/
theorem test_array_init_end :
    readRegister (run .arrayInitEnd (run .loadingEnd .reset)) 0x04 = 3 ∧
    readRegister (run .arrayInitEnd (run .loadingEnd .reset)) 0x10 = 0x00020000 := by decide

/-- R167: RST leads through HELD_IN_RESET (1) and RESTARTING (2) to READY (3). -/
theorem test_warm_reset :
    readRegister (run .rstAssert up) 0x04 = 1 ∧
    readRegister (run .rstRelease (run .rstAssert up)) 0x04 = 2 ∧
    readRegister (run .restartingEnd (run .rstRelease (run .rstAssert up))) 0x04 = 3 := by decide

/-- R168: HPT_ID in every state of a powered part. -/
theorem test_id : readRegister State.reset 0x00 = 0x47444401 := by decide

/-- R3, R4: one changed bit of a line with data reads CORRECTED with its word, and the words as written. -/
theorem test_single_change :
    ((run (.bitChange 3 5 31 (.word 6 31)) (withLine 5 31 ⟨.data (words 1), []⟩ up)).readResult 3 5 31) =
      ⟨.corrected 6, words 1⟩ := by decide

/-- R24: an expiry raises the debt of each bank, whose arbiter grants REFRESH when nothing else waits. -/
theorem test_refresh_expiry :
    ((run .refreshTimerExpiry up).bank 7).phase = .busy .refresh .deliver ∧
    ((run (.refresh 7) (run .refreshTimerExpiry up)).bank 7).debt = 0 := by decide

/-- R13, R75: a READ of a line with a changed check bit completes CORRECTED with index 8, posted at the head. -/
theorem test_read_corrected :
    readRegister (run (.readLine 3) (busy (.readLine read5 row5 false)
      (withLine 5 31 ⟨.data (words 1), [.check]⟩ (inFlight read5)))) 0x30 = 0x82081111 := by decide

/-- R14: WRITE LINE stores the captured words and completes OK as a WRITE. -/
theorem test_write_line :
    (run (.writeLine 3) (busy (.writeLine (write5 0xFF) row5 false (words 9)) (inFlight (write5 0xFF)))).cell
      3 5 31 = ⟨.data (words 9), []⟩ := by decide

/-- R15: a merge keeps the unmasked words of a corrected line and completes MERGE_CORRECTED (5). -/
theorem test_merge_line :
    readRegister (run (.mergeLine 3) (busy (.mergeLine (write5 1) row5 false 1 (words 9))
      (withLine 5 31 ⟨.data (words 1), [.word 2 0]⟩ (inFlight (write5 1))))) 0x30 = 0x82025222 := by decide

/-- R6, R16: an uncorrectable line found by patrol is poisoned. -/
theorem test_scrub_poisons :
    (run (.scrubLine 3) (busy (.scrubLine row5and0 31 5)
      (withLine 5 31 ⟨.data (words 1), [.word 2 0, .word 2 1]⟩ formatted))).cell 3 8192 31 =
      ⟨.poison, []⟩ := by decide

/-- R46: the first failed check of Table 3-2 is the result: code 5, BAD_ROW, for logical row 8192. -/
theorem test_submit_bad_row :
    readRegister (run (.submit 0x00020003) (run (.registerWrite 0x20 0x00002111) formatted)) 0x28 =
      0x00001105 := by decide

/-- R46, R51: an accepted submit, with its buffer LOCKED. -/
theorem test_submit_accepted :
    readRegister (run (.submit 0x01F00053) (run (.registerWrite 0x20 0x00002111) formatted)) 0x28 =
      0x00001101 ∧
    readRegister (run (.submit 0x01F00053) (run (.registerWrite 0x20 0x00002111) formatted)) 0x40 = 4 := by
  decide

/-- R62: the only request that waits is dispatched and granted by an IDLE bank. -/
theorem test_dispatch :
    (run .dispatch { formatted with req := { formatted.req with held := [⟨read5, .waiting⟩] } }).req.inFlight = 1 ∧
    ((run .dispatch { formatted with req := { formatted.req with held := [⟨read5, .waiting⟩] } }).bank 3).phase =
      .busy (.readLine read5 row5 false) .deliver := by decide

/-- R67: a request to an UNFORMATTED bank is answered NOT_FORMATTED (7) at once. -/
theorem test_dispatch_not_formatted :
    readRegister (run .dispatch { up with req := { up.req with held := [⟨read5, .waiting⟩] } }) 0x30 =
      0x82007111 := by decide

/-- R57, R56: a word written to BUF_DATA is read back, and the index moves from 7 to 0. -/
theorem test_buffer_data :
    (run .bufDataRead (run (.registerWrite 0x38 0x00000702) (run (.bufDataWrite 0xABCD)
      (run (.registerWrite 0x38 0x00000702) up)))).readData = 0xABCD ∧
    readRegister (run (.bufDataWrite 0xABCD) (run (.registerWrite 0x38 0x00000702) up)) 0x38 = 2 := by decide

/-- R58: a read of a LOCKED buffer returns 0 and latches BUFFER_FAULT, bit 14. -/
theorem test_buffer_fault :
    readRegister (run .bufDataRead (run (.registerWrite 0x38 2) (inFlight read5))) 0x10 = 0x00004000 := by
  decide

/-- R76: a pop removes the record at the head. -/
theorem test_pop : (run (.cplPop 0) { up with cpl := [⟨1, .read, .ok, false, 0⟩, ⟨2, .read, .ok, false, 1⟩] }).cpl =
    [⟨2, .read, .ok, false, 1⟩] := by decide

/-- R192: the pop that empties the report queue clears the overflow flag. -/
theorem test_report_pop : (run (.uerPop 5) { up with uer := ⟨[⟨3, 5, 5, 0, .copy, 1⟩], true⟩ }).uer = ⟨[], false⟩ := by
  decide

/-- R134, R196: the three words of a record. -/
theorem test_record_words :
    let s := run .frtEntryARead { up with
      frt := up.frt.setSlot 0 (some ⟨3, 8192, some 5, 2, 1, 31, 4, 6, .candidate⟩) }
    s.readData = 0x8137E000 ∧ readRegister s 0x68 = 0x01020005 ∧ readRegister s 0x9C = 0x00060004 := by decide

/-- R187, R188: acknowledge clears the bits written as 1; the mask stores the named positions. -/
theorem test_events :
    readRegister (run (.evtAck 0x00010000) { up with evt := ⟨0x00030000, 0⟩ }) 0x10 = 0x00020000 ∧
    readRegister (run (.evtMask 0xFFFFFFFF) up) 0x14 = 0x0003FF07 := by decide

/-- R168, R139: the fields of HPT_CONFIG and PTL_INTERVAL. -/
theorem test_config :
    readRegister (run (.hptConfig 0xFFFFFFFF) up) 0x08 = 0x0000010F ∧
    readRegister (run (.ptlInterval 0xFFFFFFFF) up) 0x0C = 0x0000FFFF := by decide

/-- A write of a command with an argument. -/
def commanded (c : Instr) (arg : Word) (s : State) : State := run c (run (.registerWrite 0x44 arg) s)

/-- R175: CLEAR BANK of bank 3 is RUNNING (code 1), and the bank CLEARING. -/
theorem test_clear_bank :
    readRegister (commanded .clearBank 3 up) 0x4C = 0x00000101 ∧
    readRegister (commanded .clearBank 3 up) 0x8C = 0x00001000 := by decide

/-- R176, R19: the first line of the clear is line 0 of row 0, written with zeros. -/
theorem test_clear_line :
    (run (.clearLine 3) (run .clearLinePlace (commanded .clearBank 3 up))).cell 3 0 0 = ⟨.data .zero, []⟩ ∧
    (run (.clearLine 3) (run .clearLinePlace (commanded .clearBank 3 up))).mnt.clear = some ⟨3, ⟨0, 1⟩⟩ := by
  decide

/-- R89, R101, R118: MIGRATE ROW of row 5 of bank 3 takes spare 0 and completes with DONE. -/
theorem test_migrate_row :
    readRegister (commanded .migrateRow 0x53 formatted) 0x4C = 0x00010200 ∧
    readRegister (commanded .migrateRow 0x53 formatted) 0x54 = 0x0000002B ∧
    ((commanded .migrateRow 0x53 formatted).remap 3).spare 0 = .target := by decide

/-- R105, R17, R106: the copy of line 0, granted at once, moves the cursor to line 1. -/
theorem test_copy_line :
    let s := run .copyRequestPlace (withLine 5 0 ⟨.data (words 1), []⟩ (commanded .migrateRow 0x53 formatted))
    (run (.copyLine 3 []) s).cell 3 8192 0 = ⟨.data (words 1), []⟩ ∧
    ((run (.copyLine 3 []) s).remap 3).entry? 5 = some ⟨5, .pending none 0 1 0, .volatile⟩ ∧
    ((run (.copyLine 3 [.check]) s).remap 3).entry? 5 = some ⟨5, .pending none 1 0 1, .volatile⟩ := by
  decide

/-- R116: ABORT MIGRATION returns the target to FREE and removes the entry; MIG_STATUS shows ABORTED (2). -/
theorem test_abort :
    readRegister (run .abortMigration (commanded .migrateRow 0x53 formatted)) 0x50 = 0x00000200 ∧
    ((run .abortMigration (commanded .migrateRow 0x53 formatted)).remap 3) = .initial := by decide

/-- R103: the candidate of a FORMATTED bank is taken, and its record is MIGRATING. -/
theorem test_auto_selection :
    let f := (up.frt.setSlot 4 (some ⟨3, 5, none, 4, 0, 0, 0, 0, .candidate⟩))
    let s := { formatted with
      frt := { f with queue := [4] }, hpt := ⟨.ready, 4, true⟩ }
    (run .autoSelection s).mig.state = .copying 3 5 .absent ∧ (run .autoSelection s).frt.queue = [] := by
  decide

/-- A remapped row: row 5 of bank 3 ACTIVE on spare 0. -/
def remapped (o : Origin) (s : State := formatted) : State :=
  s.setRemap 3 ⟨[⟨5, .active 0, o⟩], (s.remap 3).spares.set 0 .inUse⟩

/-- R154, R156: a burn takes slot 0, which a passed verify makes WRITTEN, and the entry PERSISTENT. -/
theorem test_burn :
    (commanded .burnRow 0x53 (remapped .volatile)).rps.slot 0 = .bad ∧
    (run (.burnAttemptEnd true) (commanded .burnRow 0x53 (remapped .volatile))).rps.slot 0 = .written 3 5 0 ∧
    ((run (.burnAttemptEnd true) (commanded .burnRow 0x53 (remapped .volatile))).remap 3).entry? 5 =
      some ⟨5, .active 0, .persistent⟩ := by decide

/-- R178, R179, R101: a migration started under the hold is PARKED, and the release makes it COPYING. -/
theorem test_hold_release :
    (commanded .migrateRow 0x53 (run .hold formatted)).mig.state = .parked 3 5 ∧
    (run .release (commanded .migrateRow 0x53 (run .hold formatted))).mig.state = .copying 3 5 .absent := by
  decide

/-- R38, R180, R182: with every bank IDLE retention is entered at once (5), left through 6, and READY is 3. -/
theorem test_retention :
    readRegister (run .enterRetention up) 0x04 = 5 ∧
    readRegister (run .exitRetention (run .enterRetention up)) 0x04 = 6 ∧
    readRegister (run .retentionExitEnd (run .exitRetention (run .enterRetention up))) 0x04 = 3 := by decide

/-- R132, R171: DROP RECORD of an empty slot gives NO_RECORD (18); a code that names none BAD_COMMAND (4). -/
theorem test_refusals :
    readRegister (run .dropRecord up) 0x4C = 0x00120900 ∧
    readRegister (run (.badCommand 200) up) 0x4C = 0x0004C800 := by decide

/-- R138, R141: the first step of a pass over a FORMATTED bank 3 is at row 0, bank 3, line 0, and after it the
cursor stands on the next line; RESTART PATROL puts it back. -/
theorem test_patrol :
    let s := run .stepTimerExpiry (run (.ptlInterval 1) (withLine 0 0 ⟨.data (words 1), []⟩ formatted))
    s.ptl.step = .running ⟨0, 3, 0⟩ false ∧ (run (.scrubLine 3) s).ptl.cursor = ⟨0, 3, 1⟩ ∧
    (run .restartPatrol s).ptl = ⟨1, .start, .running ⟨0, 3, 0⟩ true, 0⟩ := by decide

/-- The worked load of 9.5 (Tables 9-4 and 9-5). -/
def table94 : State :=
  let p := State.reset.rps
  { State.reset with rps :=
      (((p.setSlot 0 (.written 2 100 0)).setSlot 1 .bad).setSlot 2 (.written 2 100 1)).setSlot 3 (.written 5 7 0) }

theorem test_worked_load :
    ((run .loadingEnd table94).remap 2).entries = [⟨100, .active 1, .persistent⟩] ∧
    ((run .loadingEnd table94).remap 2).spare 0 = .retired ∧
    ((run .loadingEnd table94).remap 2).freeCount = 14 ∧
    ((run .loadingEnd table94).remap 5).entries = [⟨7, .active 0, .persistent⟩] := by decide

/-- The worked eviction of 7.8 (Table 7-5): slot 28, of the lowest count and the greatest age. -/
def table75 : FaultTable :=
  let watch (c : Fin 256) (last : BitVec 16) : Option FaultRecord :=
    some ⟨0, 0, none, c, 0, 0, last, last, .watch⟩
  { up.frt with
    slots := Vector.ofFn fun i : Fin 32 =>
      if i = 25 then watch 2 118 else if i = 26 then watch 2 119 else if i = 27 then watch 2 120
      else if i = 28 then watch 1 118 else if i = 29 then watch 3 120 else if i = 30 then watch 1 120
      else if i = 31 then watch 1 120 else some ⟨1, 0, none, 0, 1, 0, 0, 0, .stuck⟩ }

theorem test_worked_eviction : table75.evictionSlot? 120 = some 28 := by decide

/-- The translations of 5.9 at its step 8 (Table 5-6): row 77 on spare 1, its target spare 3, cursor 9. -/
theorem test_worked_translation :
    let m : BankRemap := ⟨[⟨77, .pending (some 1) 3 9 1, .persistent⟩], BankRemap.initial.spares⟩
    m.translate 77 4 = ⟨8193, some 8195⟩ ∧ m.translate 77 20 = ⟨8193, none⟩ ∧
    m.translate 77 9 = ⟨8193, none⟩ ∧ m.inUse 77 = false := by decide

/-! ### States that meet the invariants -/

/-- Row 5 PENDING onto spare 0, its cursor at line 7. -/
def pendingTable (c : Option SpareIdx) (k : Fin 4) : BankRemap :=
  let spares := BankRemap.initial.spares.set 0 .target
  ⟨[⟨5, .pending c 0 7 k, .volatile⟩], match c with
    | none => spares
    | some i => spares.set i.val .inUse i.isLt⟩

/-- A migration of row 5 of bank 3, with the engine in a given state. -/
def moving (c : Option SpareIdx) (k : Fin 4) (v : EngineState) : State :=
  (formatted.setRemap 3 (pendingTable c k)).setMig ⟨v, none⟩

theorem initial_agrees : BankRemap.initial.Agrees :=
  ⟨by decide, by decide, by decide, by decide⟩

theorem remapped_agrees (o : Origin) : ((remapped o).remap 3).Agrees := by
  cases o <;> exact ⟨by decide, by decide, by decide, by decide⟩

theorem pendingTable_agrees (c : Option SpareIdx) (k : Fin 4) (hc : c = none ∨ c = some 2) :
    (pendingTable c k).Agrees := by
  rcases hc with rfl | rfl <;> revert k <;>
    refine fun k => ⟨?_, ?_, ?_, ?_⟩ <;> revert k <;> decide

theorem moving_remap (c : Option SpareIdx) (k : Fin 4) (v : EngineState) :
    (moving c k v).remap 3 = pendingTable c k := by simp [moving]

theorem moving_other (c : Option SpareIdx) (k : Fin 4) (v : EngineState) (b : Bank) (h : b ≠ 3) :
    (moving c k v).remap b = .initial := by
  simp only [moving, State.remap_setMig, State.remap_setRemap_ne _ _ h]
  revert b
  decide

theorem moving_inv (c : Option SpareIdx) (k : Fin 4) (v : EngineState) (hc : c = none ∨ c = some 2)
    (hv : v = .parked 3 5 ∨ ∃ r, v = .copying 3 5 r) : RemapInv (moving c k v) := by
  refine ⟨fun b => ?_, fun b l => ?_, fun h => ?_⟩
  · by_cases h : b = 3
    · subst h
      rw [moving_remap]
      exact pendingTable_agrees c k hc
    · rw [moving_other c k v b h]
      exact initial_agrees
  · have hm : (moving c k v).mig.state = v := rfl
    have he : (pendingTable c k).entries = [⟨5, .pending c 0 7 k, .volatile⟩] := rfl
    rw [hm]
    by_cases h : b = 3
    · subst h
      rw [moving_remap, he]
      rcases hv with rfl | ⟨r, rfl⟩ <;> simp [EngineState.moves, RemapEntry.isPending]
    · rw [moving_other c k v b h]
      have h' : ¬3 = b := fun e => h e.symm
      rcases hv with rfl | ⟨r, rfl⟩ <;> simp [EngineState.moves, BankRemap.initial, h']
  · have : (moving c k v).hpt.state = .ready := rfl
    rw [this] at h
    exact absurd h (by decide)

/-- The same with the source's record, MIGRATING, in slot 0. -/
def recorded : State :=
  (moving (some 2) 1 (.copying 3 5 .absent)).setFrt
    (up.frt.setSlot 0 (some ⟨3, 8194, some 5, 4, 0, 7, 0, 0, .migrating⟩))

theorem recorded_remap_inv : RemapInv recorded := by
  have h := moving_inv (some 2) 1 (.copying 3 5 .absent) (.inr rfl) (.inr ⟨_, rfl⟩)
  exact ⟨h.banks, h.pending, h.start⟩

theorem recorded_slot (i : Fin 32) (r : FaultRecord) (h : recorded.frt.slot i = some r) :
    i = 0 ∧ r = ⟨3, 8194, some 5, 4, 0, 7, 0, 0, .migrating⟩ := by
  have key : ∀ i : Fin 32, i ≠ 0 → recorded.frt.slot i = none := by decide
  by_cases hi : i = 0
  · subst hi
    have h0 : recorded.frt.slot 0 = some ⟨3, 8194, some 5, 4, 0, 7, 0, 0, .migrating⟩ := by decide
    rw [h0] at h
    exact ⟨rfl, (Option.some.inj h).symm⟩
  · rw [key i hi] at h
    exact absurd h nofun

theorem recorded_inv : RecordInv recorded := by
  refine ⟨fun i j r q hi hj _ _ => ?_, fun i r hi _ => ?_⟩
  · rw [(recorded_slot i r hi).1, (recorded_slot j q hj).1]
  · rw [(recorded_slot i r hi).2]
    exact ⟨5, ⟨rfl, rfl⟩, by decide⟩

/-- A READ that waits for bank 3 in a given condition, its buffer LOCKED. -/
def waiting (v : Condition) : State :=
  (at3 (fun k => { k with condition := v })
    (up.setReq { up.req with held := [⟨read5, .waiting⟩] })).setBuf (up.buf.setLine 2 ⟨.locked, words 7⟩)

theorem waiting_inv (v : Condition) : RequestInv (waiting v) := by
  have hh : (waiting v).req.held = [⟨read5, .waiting⟩] := rfl
  have hw : ∀ b : Bank, ((waiting v).bank b).hostWork = [] := by
    cases v <;> decide
  refine ⟨by rw [hh]; decide, by rw [hh]; decide, ?_, fun b q => ?_, fun b => ?_, ?_⟩
  · rw [hh]
    have hb : (waiting v).buf = up.buf.setLine 2 ⟨.locked, words 7⟩ := rfl
    rw [hb]
    decide
  · rw [hw, hh]
    simp
  · rw [hw]
    exact Nat.zero_le 1
  · have hc : (waiting v).cpl = [] := rfl
    rw [RequestQueue.inFlight, hh, hc]
    decide

/-! ### The step and the whole machine -/

theorem test_meets_step :
    (up.setPending [.hold, .release]).pending = .hold :: [.release] ∧ up.pending = [] := ⟨rfl, rfl⟩

theorem test_meets_operations_stay :
    exec (.clearLine 3) (busy (.clearLine 0 0)) = .next (run (.clearLine 3) (busy (.clearLine 0 0))) ∧
    (run (.clearLine 3) (busy (.clearLine 0 0))).cell 3 0 0 ≠ (busy (.clearLine 0 0)).cell 3 0 0 ∧
    operationEndOf (.clearLine 3) 3 := ⟨rfl, by decide, by simp [operationEndOf]⟩

/-- Bank 3 about to overwrite a poisoned line. -/
def overPoison : State :=
  busy (.writeLine (write5 0xFF) row5 false (words 9)) (withLine 5 31 ⟨.poison, []⟩ (inFlight (write5 0xFF)))

theorem test_meets_poison_leaves :
    exec (.writeLine 3) overPoison = .next (run (.writeLine 3) overPoison) ∧
    (overPoison.cell 3 5 31).form = .poison ∧
    ((run (.writeLine 3) overPoison).cell 3 5 31).form ≠ .poison := ⟨rfl, by decide, by decide⟩

/-- READY with the event READY latched. -/
def latched : State := up.latch .ready

theorem test_meets_latched_event :
    exec (.evtAck 0x00020000) latched = .next (run (.evtAck 0x00020000) latched) ∧
    latched.isLatched .ready = true ∧ (run (.evtAck 0x00020000) latched).isLatched .ready = false :=
  ⟨rfl, by decide, by decide⟩

/-! ### Power, start and reset -/

theorem test_meets_power : (run .powerLoss up).powered = false ∧ up.powered = true := by decide

theorem test_meets_start :
    (State.reset.powered = true ∧ State.reset.rstAsserted = false ∧ inStart State.reset.hpt.state = true) ∧
    ((run .rstAssert .reset).powered = true ∧ (run .rstAssert .reset).rstAsserted = true ∧
      inStart (run .rstAssert .reset).hpt.state = true) ∧
    ((run .rstAssert up).rstAsserted = true ∧ (run .rstAssert up).hpt.state = .heldInReset) ∧
    ((run .rstRelease (run .rstAssert up)).rstAsserted = false ∧
      (run .rstRelease (run .rstAssert up)).hpt.state = .restarting) ∧
    (run .loadingEnd .reset).hpt.state = .starting .arrayInit := by decide

theorem test_meets_warm_reset :
    (up.powered = true ∧ up.rstAsserted = false ∧ inStart up.hpt.state = false) ∧
    (up.bank 0).phase = .idle ∧ ((run .enterRetention up).bank 0).phase = .retained ∧
    ((busy .refresh).bank 3).phase = .busy .refresh .deliver ∧
    ((run .clearBank up).bank 0).condition = .clearing := by decide

theorem test_meets_migration_reverts :
    (recorded.powered = true ∧ recorded.rstAsserted = false ∧ inStart recorded.hpt.state = false) ∧
    RemapInv recorded ∧ RecordInv recorded ∧
    (∃ r, recorded.frt.slot 0 = some r ∧ r.state = .migrating) ∧
    (recorded.remap 3).spare 0 = .target :=
  ⟨by decide, recorded_remap_inv, recorded_inv, ⟨_, rfl, rfl⟩, by decide⟩

/-- A part whose store names row 5 of bank 3 in slot 47. -/
def stored : State :=
  { State.reset with rps := State.reset.rps.setSlot 47 (.written 3 5 9) }

theorem test_meets_power_on_load :
    ((remapped .persistent).remap 3).Agrees ∧
    (∀ e ∈ ((remapped .persistent).remap 3).entries, e.isPending = false) ∧
    ((remapped .persistent).remap 3).spare 0 ≠ .free ∧
    ((remapped .persistent).remap 3).spare 15 = .free ∧
    (stored.powered = true ∧ stored.rstAsserted = false ∧ stored.hpt.state = .starting .loading) ∧
    (∀ b : Bank, stored.remap b = .initial) ∧
    (∀ (i j : Fin 48) (b : Bank) (l k : LogicalRow) (x : SpareIdx),
      stored.rps.slot i = .written b l x → stored.rps.slot j = .written b k x → l = k) := by
  refine ⟨remapped_agrees _, by decide, by decide, by decide, by decide, by decide, ?_⟩
  have key : ∀ i : Fin 48, stored.rps.slot i = .blank ∨ stored.rps.slot i = .written 3 5 9 := by decide
  intro i j b l k x hi hj
  rcases key i with h | h <;> rw [h] at hi
  · exact absurd hi nofun
  · rcases key j with h' | h' <;> rw [h'] at hj
    · exact absurd hj nofun
    · injection hi with _ h1 _
      injection hj with _ h2 _
      exact h1.symm.trans h2

/-- A part whose store names row 5 of bank 3 in slot 2 and again, for another spare, in slot 47. -/
def storedTwice : State :=
  { State.reset with
    rps := (State.reset.rps.setSlot 2 (.written 3 5 9)).setSlot 47 (.written 3 5 12) }

theorem storedTwice_slot (i : Fin 48) (b : Bank) (l : LogicalRow) (x : SpareIdx)
    (h : storedTwice.rps.slot i = .written b l x) :
    b = 3 ∧ l = 5 ∧ ((i = 2 ∧ x = 9) ∨ (i = 47 ∧ x = 12)) := by
  have key : ∀ i : Fin 48, storedTwice.rps.slot i = .blank ∨
      (i = 2 ∧ storedTwice.rps.slot i = .written 3 5 9) ∨
      (i = 47 ∧ storedTwice.rps.slot i = .written 3 5 12) := by decide
  rcases key i with h' | ⟨hi, h'⟩ | ⟨hi, h'⟩ <;> rw [h'] at h
  · exact absurd h nofun
  · injection h with hb hl hx
    exact ⟨hb.symm, hl.symm, .inl ⟨hi, hx.symm⟩⟩
  · injection h with hb hl hx
    exact ⟨hb.symm, hl.symm, .inr ⟨hi, hx.symm⟩⟩

theorem test_meets_last_loaded :
    (storedTwice.powered = true ∧ storedTwice.rstAsserted = false ∧
      storedTwice.hpt.state = .starting .loading ∧ ∀ b : Bank, storedTwice.remap b = .initial) ∧
    (∀ (i j : Fin 48) (b : Bank) (l k : LogicalRow) (x : SpareIdx),
      storedTwice.rps.slot i = .written b l x → storedTwice.rps.slot j = .written b k x → l = k) ∧
    lastLoaded storedTwice.rps 47 3 5 12 ∧
    (loadsSlot storedTwice.rps 2 3 5 9 ∧ ¬lastLoaded storedTwice.rps 2 3 5 9) ∧
    ∀ i l, storedTwice.rps.slot i ≠ .written 3 l 0 := by
  have h47 : loadsSlot storedTwice.rps 47 3 5 12 := ⟨by decide, by decide⟩
  refine ⟨by decide, fun i j b l k x hi hj => ?_, ⟨h47, fun j y hj => ?_⟩,
    ⟨⟨by decide, by decide⟩, fun h => h.2 47 12 (by decide) h47⟩, fun i l h => ?_⟩
  · rw [(storedTwice_slot i b l x hi).2.1, (storedTwice_slot j b k x hj).2.1]
  · exact absurd hj (Nat.not_lt.mpr (Nat.le_of_lt_succ j.isLt))
  · rcases (storedTwice_slot i 3 l 0 h).2.2 with h' | h'
    · exact absurd h'.2 (by decide)
    · exact absurd h'.2 (by decide)

/-- R162: the row stands on the spare of the last slot that loads it, and the displaced spare is RETIRED. -/
theorem test_last_slot_wins :
    ((run .loadingEnd storedTwice).remap 3).entry? 5 = some ⟨5, .active 12, .persistent⟩ ∧
    ((run .loadingEnd storedTwice).remap 3).spare 9 = .retired := by decide

/-! ### The array and the timers -/

theorem test_meets_bit_change : overPoison.array.wf = true := by decide

theorem test_meets_read_outcome :
    (∃ c : LineCell, c.form = .data (words 1) ∧ c.changes = []) ∧
    (∃ c : LineCell, c.form = .data (words 1) ∧ c.changes = [.word 7 31]) ∧
    (∃ c : LineCell, c.form = .data (words 1) ∧ c.changes.length = 2) ∧
    (∃ c d : LineCell, c.form = .data (words 1) ∧ 3 ≤ c.changes.length ∧ d.form = .data (words 9) ∧
      d.changes.Perm c.changes) ∧
    (∃ c : LineCell, c.form = .poison ∧ c.changes.length < 2 ∧ (readCell 0 c).outcome = .poisoned) ∧
    ∃ c : LineCell, c.form = .poison ∧ 2 ≤ c.changes.length :=
  ⟨⟨⟨.data (words 1), []⟩, rfl, rfl⟩, ⟨⟨.data (words 1), [.word 7 31]⟩, rfl, rfl⟩,
    ⟨⟨.data (words 1), [.check, .check]⟩, rfl, rfl⟩,
    ⟨⟨.data (words 1), [.check, .check, .word 0 0]⟩, ⟨.data (words 9), [.word 0 0, .check, .check]⟩, rfl,
      by decide, rfl, by decide⟩,
    ⟨⟨.poison, [.check]⟩, rfl, by decide, by decide⟩, ⟨⟨.poison, [.check, .check]⟩, rfl, by decide⟩⟩

theorem test_meets_refresh_expiry :
    State.reset.refreshTimer = .stopped ∧ up.refreshTimer = .running ∧
    (up.bank 7).phase = .idle ∧ up.hpt.state = .ready ∧ (up.bank 7).migrationSlot = false ∧
    ((busy .refresh).bank 3).phase = .busy .refresh .deliver ∧
    ((at3 (fun k => { k with phase := .retained }) up).bank 3).phase = .retained := by decide

/-- READY with banks 0 and 3 FORMATTED, patrol running and its cursor at a position. -/
def patrolling (p : Position) : State :=
  (formatted.setBank 0 { formatted.bank 0 with condition := .formatted }).setPtl ⟨1, p, .none, 65535⟩

theorem test_meets_step_expiry :
    stepDue up = false ∧
    (stepDue (patrolling .start) = true ∧
      firstPatrolled (patrolling .start) (patrolling .start).ptl.cursor.number .start) ∧
    (stepDue (patrolling ⟨8207, 7, 31⟩) = true ∧ firstPatrolled (patrolling ⟨8207, 7, 31⟩) 0 .start ∧
      ∀ q : Position, (patrolling ⟨8207, 7, 31⟩).ptl.cursor.number ≤ q.number →
        patrolled (patrolling ⟨8207, 7, 31⟩) q.row q.bank = false) := by
  have h0 : ∀ q : Position, ¬q.number < Position.start.number := fun q => Nat.not_lt_zero _
  refine ⟨by decide, ⟨by decide, by decide, by decide, fun q _ h => absurd h (h0 q)⟩, by decide,
    ⟨by decide, by decide, fun q _ h => absurd h (h0 q)⟩, fun q hq => ?_⟩
  have hc : (patrolling ⟨8207, 7, 31⟩).ptl.cursor.number = 2101247 := by decide
  rw [hc] at hq
  have hr := q.row.isLt
  have hn := q.line.isLt
  have hb := q.bank.isLt
  simp only [Position.number] at hq
  have h7 : q.bank = 7 := Fin.ext (show q.bank.val = 7 by omega)
  have hf : ((patrolling ⟨8207, 7, 31⟩).bank 7).condition = .unformatted := by decide
  rw [h7, patrolled, hf]
  rfl

/-! ### The ends of the bank operations -/

/-- Bank 3 reading line 31 of row 5 for a held request. -/
def reading : State := busy (.readLine read5 row5 false) (inFlight read5)

theorem test_meets_read_line :
    (reading.bank 3).phase = .busy (.readLine read5 row5 false) .deliver ∧ reading.array.wf = true := by
  decide

/-- Bank 3 merging words into that line. -/
def merging : State := busy (.mergeLine (write5 0x80) row5and0 true 0x80 (words 9)) (inFlight (write5 0x80))

theorem test_meets_write_and_merge_line :
    ((overPoison.bank 3).phase = .busy (.writeLine (write5 0xFF) row5 false (words 9)) .deliver ∧
      overPoison.array.wf = true) ∧
    (merging.bank 3).phase = .busy (.mergeLine (write5 0x80) row5and0 true 0x80 (words 9)) .deliver ∧
      merging.array.wf = true := by decide

/-- Bank 3 scrubbing, with the step RUNNING at a position. -/
def scrubbing (p : Position) (marked : Bool) : State :=
  (busy (.scrubLine ⟨p.row, none⟩ p.line 5)).setPtl ⟨1, p, .running p marked, 7⟩

theorem test_meets_scrub_line :
    (((scrubbing ⟨5, 3, 30⟩ false).bank 3).phase = .busy (.scrubLine row5 30 5) .deliver ∧
      (scrubbing ⟨5, 3, 30⟩ false).array.wf = true ∧
      (scrubbing ⟨5, 3, 30⟩ false).ptl.step = .running ⟨5, 3, 30⟩ false ∧
      Position.number ⟨5, 3, 31⟩ = Position.number ⟨5, 3, 30⟩ + 1) ∧
    (scrubbing ⟨5, 3, 30⟩ true).ptl.step = .running ⟨5, 3, 30⟩ true ∧
    (scrubbing ⟨8207, 7, 31⟩ false).ptl.step = .running ⟨8207, 7, 31⟩ false := by decide

theorem test_meets_copy_line :
    ((busy (.copyLine 5 5 0 31)).bank 3).phase = .busy (.copyLine 5 5 0 31) .deliver ∧
    (busy (.copyLine 5 5 0 31)).array.wf = true ∧ (5 : PhysRow) ≠ SpareIdx.physical 0 := by decide

/-- The engine at the end of a copy of row 5 of bank 3, restarted `k` times. -/
def copying (c : Option SpareIdx) (k : Fin 4) (parkPending abortPending : Bool) : State :=
  moving c k (.copying 3 5 (.running parkPending abortPending))

theorem copying_inv (c : Option SpareIdx) (k : Fin 4) (p a : Bool) (hc : c = none ∨ c = some 2) :
    RemapInv (copying c k p a) := moving_inv c k _ hc (.inr ⟨_, rfl⟩)

theorem copying_mem (c : Option SpareIdx) (k : Fin 4) (p a : Bool) :
    (⟨5, .pending c 0 7 k, .volatile⟩ : RemapEntry) ∈ ((copying c k p a).remap 3).entries := by
  rw [copying, moving_remap]
  exact List.mem_singleton.mpr rfl

theorem test_meets_copy_result :
    (RemapInv (copying none 2 true false) ∧
      (copying none 2 true false).mig.state = .copying 3 5 (.running true false) ∧
      ⟨5, .pending none 0 7 2, .volatile⟩ ∈ ((copying none 2 true false).remap 3).entries ∧
      (2 : Fin 4).val < 3 ∧ lowestFree ((copying none 2 true false).remap 3) 1) ∧
    (RemapInv (copying (some 2) 3 false false) ∧
      (copying (some 2) 3 false false).mig.state = .copying 3 5 (.running false false) ∧
      ⟨5, .pending (some 2) 0 7 3, .volatile⟩ ∈ ((copying (some 2) 3 false false).remap 3).entries) ∧
    (30 : LineNo).val < 31 ∧ (31 : LineNo).val = 31 ∧ (3 : Fin 4).val = 3 :=
  ⟨⟨copying_inv _ _ _ _ (.inl rfl), rfl, copying_mem _ _ _ _, by decide, by decide, by decide⟩,
    ⟨copying_inv _ _ _ _ (.inr rfl), rfl, copying_mem _ _ _ _⟩, by decide, by decide, by decide⟩

theorem test_meets_copy_result_records :
    (∃ r, recorded.frt.slot 0 = some r ∧ r.state = .migrating ∧
      ∀ j q, recorded.frt.slot j = some q → q.state = .migrating → j = 0) ∧
    (∀ (i : Fin 32) (r : FaultRecord), up.frt.slot i = some r → r.state ≠ .migrating) ∧
    (∃ r, recorded.frt.slot 0 = some r ∧ r.bank = 3 ∧ r.row = 8194 ∧
      ∀ j q, recorded.frt.slot j = some q → q.bank = 3 → q.row = 8194 → j = 0) ∧
    ∀ (i : Fin 32) (r : FaultRecord), up.frt.slot i = some r → ¬(r.bank = 3 ∧ r.row = 5) := by
  have key : ∀ i : Fin 32, up.frt.slot i = none := by decide
  refine ⟨⟨_, rfl, rfl, fun j q h _ => (recorded_slot j q h).1⟩, fun i r h => ?_,
    ⟨_, rfl, rfl, rfl, fun j q h _ _ => (recorded_slot j q h).1⟩, fun i r h => ?_⟩ <;>
  · rw [key i] at h
    exact absurd h nofun

/-- Bank 3 writing a line of its clear. -/
def clearing (row : PhysRow) (n : LineNo) : State :=
  at3 (fun k => { k with condition := .clearing })
    ((busy (.clearLine row n)).setMnt
      { up.mnt with running := some ⟨.clearBank, { MntArg.initial with bank := 3 }⟩, clear := some ⟨3, ⟨row, n⟩⟩ })

theorem test_meets_clear_line :
    (((clearing 5 30).bank 3).phase = .busy (.clearLine 5 30) .deliver ∧ (clearing 5 30).array.wf = true ∧
      (clearing 5 30).mnt.clear = some ⟨3, ⟨5, 30⟩⟩ ∧
      firstCleared ((clearing 5 30).remap 3) (RowLine.number ⟨5, 30⟩ + 1) ⟨5, 31⟩) ∧
    ((clearing 8207 31).bank 3).phase = .busy (.clearLine 8207 31) .deliver ∧
    (clearing 8207 31).mnt.clear = some ⟨3, ⟨8207, 31⟩⟩ ∧
    ∀ p : RowLine, RowLine.number ⟨8207, 31⟩ + 1 ≤ p.number →
      ((clearing 8207 31).remap 3).cleared p.row = false := by
  have hn : RowLine.number ⟨8207, 31⟩ = 262655 := by decide
  have h1 : RowLine.number ⟨5, 30⟩ = 190 := by decide
  have h2 : RowLine.number ⟨5, 31⟩ = 191 := by decide
  refine ⟨⟨by decide, by decide, by decide, by rw [h1, h2], by decide, fun q hq hq' => ?_⟩,
    by decide, by decide, fun p hp => ?_⟩
  · rw [h1] at hq
    rw [h2] at hq'
    omega
  · rw [hn] at hp
    have := p.row.isLt
    have := p.line.isLt
    simp only [RowLine.number] at hp
    omega

theorem test_meets_refresh : ((busy .refresh).bank 3).phase = .busy .refresh .deliver := by decide

/-! ### The arbiter -/

theorem test_meets_arbiter :
    ((at3 (fun k => { k with debt := 5, hostSlot := some read5 }) formatted).bank 3).choice .ready =
      some .urgentRefresh ∧
    ((at3 (fun k => { k with patrolAge := 64, hostSlot := some read5, patrolSlot := some ⟨5, 0⟩ })
      formatted).bank 3).choice .ready = some .patrol ∧
    (up.bank 0).choice .ready = none := by decide

theorem test_meets_clear_and_refresh_grants :
    (((at3 (fun k => { k with condition := .clearing, clearSlot := some ⟨5, 0⟩ }) up).bank 3).phase = .idle ∧
      ((at3 (fun k => { k with condition := .clearing, clearSlot := some ⟨5, 0⟩ }) up).bank 3).choice .ready =
        some .clear ∧
      ((at3 (fun k => { k with condition := .clearing, clearSlot := some ⟨5, 0⟩ }) up).bank 3).clearSlot =
        some ⟨5, 0⟩) ∧
    ((at3 (fun k => { k with debt := 4 }) up).bank 3).choice .ready = some .refresh ∧
    ((at3 (fun k => { k with debt := 5 }) up).bank 3).choice .ready = some .urgentRefresh := by decide

/-- Bank 3 IDLE with all three requesters waiting, aged as given. -/
def contended (m : Fin 17) (p : Fin 65) (row : PhysRow) : State :=
  (at3 (fun k => { k with
      condition := .formatted, hostSlot := some read5, migrationSlot := true,
      patrolSlot := some ⟨row, 0⟩, migrationAge := m, patrolAge := p })
    (moving none 1 (.copying 3 5 .waiting))).setPtl ⟨1, ⟨row, 3, 0⟩, .waiting ⟨row, 3, 0⟩, 7⟩

theorem test_meets_host_copy_and_step_grants :
    (((contended 15 63 5).bank 3).phase = .idle ∧
      ((contended 15 63 5).bank 3).choice .ready = some .host ∧
      ((contended 15 63 5).bank 3).hostSlot = some read5 ∧ (contended 15 63 5).hpt.state = .ready) ∧
    (((contended 16 63 5).bank 3).choice .ready = some .migration ∧
      (contended 16 63 5).mig.state = .copying 3 5 .waiting ∧
      ((contended 16 63 5).remap 3).pending? = some ⟨5, .pending none 0 7 1, .volatile⟩) ∧
    (((contended 0 64 5).bank 3).choice .ready = some .patrol ∧
      ((contended 0 64 5).bank 3).patrolSlot = some ⟨5, 0⟩ ∧
      ((contended 0 64 5).remap 3).inUse 5 = true ∧
      (contended 0 64 5).ptl.step = .waiting ⟨5, 3, 0⟩) := by decide

theorem test_meets_idle_bank :
    ((busy .refresh).bank 3).phase ≠ .idle ∧
    (((contended 0 64 8207).bank 3).phase = .idle ∧ ((contended 0 64 8207).bank 3).migrationSlot = true ∧
      (∃ e ∈ ((contended 0 64 8207).remap 3).entries, e.isPending = true)) ∧
    (((contended 0 64 8207).bank 3).choice .ready = some .patrol ∧
      ((contended 0 64 8207).bank 3).patrolSlot = some ⟨8207, 0⟩ ∧
      ((contended 0 64 8207).remap 3).inUse 8207 = false ∧
      (contended 0 64 8207).ptl.step = .waiting ⟨8207, 3, 0⟩ ∧
      Position.number ⟨8207, 3, 1⟩ = Position.number ⟨8207, 3, 0⟩ + 1) ∧
    ((inState .enteringRetention up).hpt.state = .enteringRetention ∧
      ((inState .enteringRetention up).bank 3).phase = .idle ∧
      ((inState .enteringRetention up).bank 3).hostSlot = none ∧
      ((inState .enteringRetention up).bank 0).phase ≠ .retained) := by decide

/-- Retention entry with bank 3 the last one that is not RETAINED. -/
def lastEntering : State :=
  at3 (fun k => { k with phase := .idle })
    ((inState .enteringRetention up).mapBanks fun k => { k with phase := .retained })

/-- Bank 7 about to discard a stale step at the last position. -/
def lastStale : State :=
  (formatted.setBank 7 { formatted.bank 7 with
      condition := .formatted, patrolSlot := some ⟨8207, 31⟩ }).setPtl
    ⟨1, ⟨8207, 7, 31⟩, .waiting ⟨8207, 7, 31⟩, 7⟩

theorem test_meets_idle_bank_at_the_ends :
    (lastEntering.hpt.state = .enteringRetention ∧ (lastEntering.bank 3).phase = .idle ∧
      (lastEntering.bank 3).hostSlot = none ∧ ∀ c : Bank, c ≠ 3 → (lastEntering.bank c).phase = .retained) ∧
    ((lastStale.bank 7).phase = .idle ∧ (lastStale.bank 7).choice .ready = some .patrol ∧
      (lastStale.bank 7).patrolSlot = some ⟨8207, 31⟩ ∧ (lastStale.remap 7).inUse 8207 = false ∧
      lastStale.ptl.step = .waiting ⟨8207, 7, 31⟩) := by decide

/-! ### Dispatch and the engines' own happenings -/

theorem test_meets_dispatch :
    (∀ h ∈ up.req.held, eligible up h = false) ∧
    (RequestInv (waiting .formatted) ∧
      (waiting .formatted).req.held = [] ++ ⟨read5, .waiting⟩ :: [] ∧
      (∀ h ∈ (waiting .formatted).req.held, h.state = .inFlight → h.request.bank ≠ read5.bank) ∧
      ((waiting .formatted).bank read5.bank).condition = .formatted ∧
      (waiting .formatted).hpt.state = .ready ∧
      (waiting .formatted).req.inFlight + (waiting .formatted).cpl.length < 8) :=
  ⟨by decide, waiting_inv _, rfl, by decide, by decide, by decide, by decide⟩

theorem test_meets_unformatted_bank :
    (RequestInv (waiting .unformatted) ∧
      (waiting .unformatted).req.held = [] ++ ⟨read5, .waiting⟩ :: [] ∧
      eligible (waiting .unformatted) ⟨read5, .waiting⟩ = true ∧
      ((waiting .unformatted).bank read5.bank).condition = .unformatted) ∧
    (RequestInv (waiting .formatted) ∧ eligible (waiting .formatted) ⟨read5, .waiting⟩ = true) ∧
    ((waiting .clearing).bank read5.bank).condition = .clearing :=
  ⟨⟨waiting_inv _, rfl, by decide, by decide⟩, ⟨waiting_inv _, by decide⟩, by decide⟩

theorem test_meets_placements :
    (moving none 0 (.copying 3 5 .absent)).mig.state = .copying 3 5 .absent ∧
    (∀ b l, up.mig.state ≠ .copying b l .absent) ∧
    (let s := run .clearBank up
     s.mnt.clear = some ⟨0, ⟨0, 0⟩⟩ ∧ (s.bank 0).condition = .clearing ∧ (s.bank 0).hostSlot = none ∧
      (s.bank 0).clearSlot = none ∧ (s.bank 0).phase = .idle ∧ firstCleared (s.remap 0) 0 ⟨0, 0⟩) ∧
    up.mnt.clear = none :=
  ⟨rfl, fun _ _ => nofun, ⟨by decide, by decide, by decide, by decide, by decide, by decide, by decide,
    fun q _ h => absurd h (Nat.not_lt_zero _)⟩, rfl⟩

/-- Auto-migration on, with the record of slot 4 the candidate. -/
def selecting : State :=
  { formatted with
    frt := { up.frt.setSlot 4 (some ⟨3, 5, none, 4, 0, 0, 0, 0, .candidate⟩) with queue := [4] }
    hpt := ⟨.ready, 4, true⟩ }

theorem test_meets_migration_starts :
    ((formatted.remap 3).Agrees ∧ lowestFree (formatted.remap 3) 0 ∧ (formatted.remap 3).entry? 5 = none) ∧
    (((remapped .persistent).remap 3).Agrees ∧ lowestFree ((remapped .persistent).remap 3) 1 ∧
      ((remapped .persistent).remap 3).entry? 5 = some ⟨5, .active 0, .persistent⟩) ∧
    (let s := run (.registerWrite 0x44 0x0001FFF3) formatted
     takesCommand s ∧ s.mnt.arg.rowField.val = (8191 : LogicalRow).val ∧ s.mig.state = .idle ∧
      (s.bank s.mnt.arg.bank).condition = .formatted ∧ (s.remap s.mnt.arg.bank).entry? 8191 = none ∧
      ¬noFree (s.remap s.mnt.arg.bank)) ∧
    (selecting.hpt.autoMigrate = true ∧ selecting.mig.state = .idle ∧ selecting.mnt.hold = false ∧
      selecting.hpt.state = .ready ∧ selecting.frt.queue = [] ++ 4 :: [] ∧
      ∃ r, selecting.frt.slot 4 = some r ∧ qualifies selecting r = true) ∧
    up.hpt.autoMigrate = false :=
  ⟨⟨initial_agrees, by unfold lowestFree; decide, by decide⟩,
    ⟨remapped_agrees _, by unfold lowestFree; decide, by decide⟩,
    ⟨⟨by decide, by decide⟩, by decide, by decide, by decide, by decide, fun h => h 0 (by decide)⟩,
    ⟨rfl, rfl, rfl, rfl, rfl, _, rfl, by decide⟩, rfl⟩

/-- A burn of row 5 of bank 3 in its attempt `a`, on slot 1. -/
def burning (a : Fin 4) (full : Bool) : State :=
  (remapped .volatile).setRps
    { slots := (if full then Vector.replicate 48 .bad else (Vector.replicate 48 .blank).set 0 .bad).set 1 .bad
      burn := some ⟨3, 5, 0, a, 1⟩, select := 0 }

theorem test_meets_burn_attempt :
    ((burning 1 false).rps.burn = some ⟨3, 5, 0, 1, 1⟩ ∧
      ((burning 1 false).remap 3).entry? 5 = some ⟨5, .active 0, .volatile⟩) ∧
    ((1 : Fin 4).val < 3 ∧ (burning 1 false).rps.slot 2 = .blank ∧
      ∀ j < (2 : Fin 48), (burning 1 false).rps.slot j ≠ .blank) ∧
    ((burning 3 false).rps.burn = some ⟨3, 5, 0, 3, 1⟩ ∧ (3 : Fin 4).val = 3) ∧
    ((burning 2 true).rps.burn = some ⟨3, 5, 0, 2, 1⟩ ∧ ∀ j, (burning 2 true).rps.slot j ≠ .blank) ∧
    (∀ o, ((burning 1 false).setRmp up.rmp |>.remap 3).entry? 5 ≠ some ⟨5, .active 0, o⟩) :=
  ⟨by decide, by decide, by decide, by decide, by intro o; cases o <;> decide⟩

/-! ### The register window -/

theorem test_meets_closed_window :
    State.reset.windowOpen = false ∧ State.reset.powered = true ∧
    (isAccess (.submit 0) = true ∧ isAccessRead (.submit 0) = false) ∧ isAccessRead .bufDataRead = true := by
  decide

/-- The latch of a request written, over an open window. -/
def latchedAs (w : Word) (s : State := formatted) : State := run (.registerWrite 0x20 w) s

theorem test_meets_submit :
    (latchedAs 0x00FF2233).windowOpen = true ∧
    8 ≤ ((latchedAs 0x00FF2233).setReq
      { up.req with held := List.replicate 8 ⟨read5, .waiting⟩ }).req.held.length ∧
    (latchedAs 0x00FF3233).req.latch.kindCode = 2#2 ∧
    ((latchedAs 0x00002011).req.latch.kindCode ≠ 1#2 ∧ (latchedAs 0x00002011).req.latch.kindCode ≠ 2#2) ∧
    ((0x00020000 : Word).extractLsb' 4 14).toNat = 8192 ∧
    ((0x0001FFF0 : Word).extractLsb' 4 14).toNat = 8191 ∧
    ((latchedAs 0x00002211).req.latch.kindCode = 2#2 ∧ (latchedAs 0x00002211).req.latch.mask = 0#8) ∧
    (∃ h ∈ (latchedAs 0x00001111 (inFlight read5)).req.held,
      h.request.tag = (latchedAs 0x00001111 (inFlight read5)).req.latch.tag) ∧
    (((latchedAs 0x00002112 (inFlight read5)).buf.line 2).state = .locked ∧
      (latchedAs 0x00002112 (inFlight read5)).req.latch.buffer = 2) ∧
    ((latchedAs 0x00002111).buf.line (latchedAs 0x00002111).req.latch.buffer).state = .host := by decide

theorem test_meets_buffer_data :
    (formatted.windowOpen = true ∧ (formatted.buf.line formatted.buf.selected).state = .host) ∧
    let s := run (.registerWrite 0x38 0x702) (inFlight read5)
    s.windowOpen = true ∧ (s.buf.line s.buf.selected).state = .locked := by decide

theorem test_meets_pops :
    up.windowOpen = true ∧ up.cpl = [] ∧ up.uer.reports = [] ∧
    ({ up with cpl := [⟨1, .read, .ok, false, 0⟩] } : State).cpl = ⟨1, .read, .ok, false, 0⟩ :: [] ∧
    ({ up with uer := ⟨[⟨3, 5, 5, 0, .copy, 1⟩], true⟩ } : State).uer.reports = ⟨3, 5, 5, 0, .copy, 1⟩ :: [] := by
  decide

theorem test_meets_frt_entry_read :
    up.windowOpen = true ∧ up.frt.slot up.frt.select = none ∧
    (∃ r, (recorded.frt.slot recorded.frt.select) = some r) ∧
    up.powered = true ∧ up.rstAsserted = false ∧ inStart up.hpt.state = false ∧
    (run .powerLoss up).powered = false ∧
    (exec .frtEntryARead recorded = .next (run .frtEntryARead recorded) ∧
      (run .frtEntryARead recorded).frt.holdB ≠ recorded.frt.holdB) :=
  ⟨by decide, by decide, ⟨_, rfl⟩, by decide, by decide, by decide, by decide, rfl, by decide⟩

theorem test_meets_events_and_storing_writes :
    up.windowOpen = true ∧ Instr.wellFormed (.registerWrite 0x10 0) = true ∧
    (0x10 : BitVec 8) ∉ ([0x20, 0x38, 0x44, 0x60, 0x80, 0x90] : List (BitVec 8)) := by decide

theorem test_meets_status_registers :
    (up.windowOpen = true ∧ up.req.held.length ≤ 8 ∧ up.cpl.length ≤ 8 ∧ up.cpl = [] ∧
      up.uer.reports.length ≤ 8 ∧ up.rps.slot 0 = .blank ∧ up.rps.select.val = (0 : Fin 48).val) ∧
    (run .abortMigration (moving none 3 (.parked 3 5))).mig = ⟨.idle, some ⟨.aborted, 3, 5, 3⟩⟩ ∧
    ((moving (some 2) 3 (.parked 3 5)).windowOpen = true ∧
      (moving (some 2) 3 (.parked 3 5)).mig.state = .parked 3 5 ∧
      ((moving (some 2) 3 (.parked 3 5)).remap 3).entry? 5 = some ⟨5, .pending (some 2) 0 7 3, .volatile⟩) ∧
    ((run (.writeLine 3) overPoison).windowOpen = true ∧ (run (.writeLine 3) overPoison).cpl.length = 1) ∧
    (burning 1 false).rps.slot 1 = .bad ∧
    48 ≤ (run (.registerWrite 0x90 0x30) up).rps.select.val := by decide

theorem test_meets_status_registers_selected :
    up.mig = ⟨.idle, none⟩ ∧ up.uer.reports = [] ∧
    ((selecting.frt.slots.toList.countP Option.isSome = 1 ∧ selecting.frt.queue.length ≤ 32)) ∧
    (up.remap up.rmp.selectBank).entry? up.rmp.selectRow = none ∧
    (let s := run (.registerWrite 0x80 0x53) (remapped .persistent)
     s.windowOpen = true ∧
      (s.remap s.rmp.selectBank).entry? s.rmp.selectRow = some ⟨5, .active 0, .persistent⟩) ∧
    (let s := run (.registerWrite 0x80 0x53) (moving (some 2) 3 (.parked 3 5))
     s.windowOpen = true ∧
      (s.remap s.rmp.selectBank).entry? s.rmp.selectRow =
        some ⟨5, .pending (some 2) 0 7 3, .volatile⟩) := by decide

/-- R135, R96, R159: FRT_LEVEL, RMP_INFO and RPS_LEVEL, with the fields of Table 11-4. -/
theorem test_levels_and_info :
    readRegister selecting 0x6C = 0x04000101 ∧
    readRegister (run (.registerWrite 0x80 0x53) (remapped .persistent)) 0x84 = 0x80000007 ∧
    readRegister (run (.registerWrite 0x80 0x53) (moving (some 2) 3 (.parked 3 5))) 0x84 = 0x83070024 ∧
    readRegister (burning 1 false) 0x98 = 0x0002002E := by decide

/-! ### Maintenance commands -/

theorem test_meets_busy_unit :
    MntCommand.proper .hold ∧ MntCommand.proper (.unknown 11) ∧ (run .clearBank up).windowOpen = true ∧
    (run .clearBank up).mnt.running ≠ none := ⟨trivial, by simp [MntCommand.proper]; decide, by decide, by decide⟩

/-- The argument written before a command. -/
def withArg (w : Word) (s : State) : State := run (.registerWrite 0x44 w) s

theorem test_meets_refused_bank_commands :
    takesCommand (withArg 0x53 formatted) ∧ namesCommand 0 = false ∧ namesCommand 11 = false ∧
    (takesCommand (run .enterRetention up) ∧ (run .enterRetention up).hpt.state ≠ .ready) ∧
    (takesCommand (withArg 3 (moving none 0 (.parked 3 5))) ∧
      ∃ e ∈ ((withArg 3 (moving none 0 (.parked 3 5))).remap 3).entries, e.isPending = true) ∧
    (takesCommand up ∧ (up.bank up.mnt.arg.bank).condition ≠ .formatted) ∧
    ((withArg 0x00020003 formatted).mnt.arg.rowField.val = 8192 ∧
      ((withArg 0x00020003 formatted).bank 3).condition = .formatted) ∧
    ((withArg 0x63 (moving none 0 (.parked 3 5))).mig.state ≠ .idle ∧
      ((withArg 0x63 (moving none 0 (.parked 3 5))).bank 3).condition = .formatted) ∧
    (((withArg 0x53 (moving none 0 .idle)).remap 3).entry? 5 = some ⟨5, .pending none 0 7 0, .volatile⟩ ∧
      (withArg 0x53 (moving none 0 .idle)).mig.state = .idle) :=
  ⟨⟨by decide, by decide⟩, by decide, by decide, ⟨⟨by decide, by decide⟩, by decide⟩,
    ⟨⟨by decide, by decide⟩, by decide⟩, ⟨⟨by decide, by decide⟩, by decide⟩, by decide, by decide, by decide⟩

/-- Bank 3 with every spare RETIRED. -/
def exhausted : State := formatted.setRemap 3 ⟨[], Vector.replicate 16 .retired⟩

theorem test_meets_refused_other_commands :
    (noFree ((withArg 0x53 exhausted).remap 3) ∧ ((withArg 0x53 exhausted).remap 3).entry? 5 = none ∧
      (withArg 0x53 exhausted).mig.state = .idle ∧ takesCommand (withArg 0x53 exhausted)) ∧
    ((withArg 0x53 (moving none 0 (.parked 3 5))).remap 3).entry? 5 =
      some ⟨5, .pending none 0 7 0, .volatile⟩ ∧
    ((withArg 0x53 (remapped .persistent)).remap 3).entry? 5 = some ⟨5, .active 0, .persistent⟩ ∧
    (((withArg 0x53 (burning 2 true)).remap 3).entry? 5 = some ⟨5, .active 0, .volatile⟩ ∧
      ∀ i, (withArg 0x53 (burning 2 true)).rps.slot i ≠ .blank) ∧
    up.frt.slot up.mnt.arg.index = none ∧
    ∃ r, recorded.frt.slot recorded.mnt.arg.index = some r ∧ r.state = .migrating :=
  ⟨⟨by unfold noFree; decide, by decide, by decide, by decide, by decide⟩, by decide, by decide, by decide,
    by decide, _, rfl, rfl⟩

theorem test_meets_clear_bank :
    (takesCommand formatted ∧ formatted.hpt.state = .ready ∧
      ∀ e ∈ (formatted.remap formatted.mnt.arg.bank).entries, e.isPending = false) ∧
    (withArg 3 (contended 0 0 5)).ptl.step = .waiting ⟨5, 3, 0⟩ ∧ (withArg 3 (contended 0 0 5)).mnt.arg.bank = 3 ∧
    (contended 0 0 5).mnt.arg.bank = 0 := ⟨⟨⟨by decide, by decide⟩, by decide⟩, by decide, by decide, by decide⟩

theorem test_meets_abort :
    (RemapInv (moving (some 2) 3 (.parked 3 5)) ∧ takesCommand (moving (some 2) 3 (.parked 3 5)) ∧
      ⟨5, .pending (some 2) 0 7 3, .volatile⟩ ∈ ((moving (some 2) 3 (.parked 3 5)).remap 3).entries) ∧
    (RemapInv (moving none 0 (.copying 3 5 .waiting)) ∧ takesCommand (moving none 0 (.copying 3 5 .waiting)) ∧
      ⟨5, .pending none 0 7 0, .volatile⟩ ∈ ((moving none 0 (.copying 3 5 .waiting)).remap 3).entries) ∧
    (RemapInv (copying none 0 false true) ∧ takesCommand (copying none 0 false true) ∧
      (copying none 0 false true).mig.state = .copying 3 5 (.running false true)) :=
  ⟨⟨moving_inv _ _ _ (.inr rfl) (.inl rfl), ⟨by decide, by decide⟩, by decide⟩,
    ⟨moving_inv _ _ _ (.inl rfl) (.inr ⟨_, rfl⟩), ⟨by decide, by decide⟩, by decide⟩,
    ⟨copying_inv _ _ _ _ (.inl rfl), ⟨by decide, by decide⟩, rfl⟩⟩

theorem test_meets_burn_row_and_drop_record :
    (let s := withArg 0x53 (remapped .volatile)
     takesCommand s ∧ (5 : LogicalRow).val = s.mnt.arg.rowField.val ∧
      (s.remap s.mnt.arg.bank).entry? 5 = some ⟨5, .active 0, .volatile⟩ ∧ s.rps.slot 0 = .blank ∧
      ∀ k < (0 : Fin 48), s.rps.slot k ≠ .blank) ∧
    (takesCommand (withArg 0x04000000 selecting) ∧
      ∃ r, (withArg 0x04000000 selecting).frt.slot (withArg 0x04000000 selecting).mnt.arg.index = some r ∧
        r.state ≠ .migrating) :=
  ⟨⟨⟨by decide, by decide⟩, by decide, by decide, by decide, by decide⟩,
    ⟨by decide, by decide⟩, _, rfl, by decide⟩

theorem test_meets_hold_and_parking :
    (takesCommand up ∧ up.mnt.hold = false ∧ up.hpt.state = .ready) ∧
    (takesCommand (run .hold up) ∧ (run .hold up).mnt.hold = true ∧ (run .hold up).hpt.state = .ready) ∧
    (takesCommand (run .enterRetention up) ∧ (run .enterRetention up).mnt.hold = false ∧
      (run .enterRetention up).hpt.state ≠ .ready) ∧
    (run .hold (run .enterRetention up)).mnt.hold = true ∧
    (moving none 0 (.copying 3 5 .absent)).mig.state = .copying 3 5 .absent ∧
    (moving none 0 (.copying 3 5 .waiting)).mig.state = .copying 3 5 .waiting ∧
    (copying none 0 false true).mig.state = .copying 3 5 (.running false true) ∧
    (moving none 0 (.parked 3 5)).mig.state = .parked 3 5 ∧ up.mig.state = .idle ∧
    (contended 0 0 5).ptl.step = .waiting ⟨5, 3, 0⟩ ∧ ∀ p, up.ptl.step ≠ .waiting p :=
  ⟨⟨⟨by decide, by decide⟩, by decide⟩, ⟨⟨by decide, by decide⟩, by decide⟩,
    ⟨⟨by decide, by decide⟩, by decide⟩, by decide, rfl, rfl, rfl, rfl, rfl, rfl, nofun⟩

theorem test_meets_retention :
    (takesCommand up ∧ up.hpt.state = .ready ∧ (∀ b : Bank, (up.bank b).phase ≠ .retained) ∧
      ∀ b : Bank, (up.bank b).phase = .idle ∧ (up.bank b).hostSlot = none) ∧
    (takesCommand (busy .refresh) ∧ (∀ b : Bank, ((busy .refresh).bank b).phase ≠ .retained) ∧
      ∃ b : Bank, ((busy .refresh).bank b).phase ≠ .idle ∨ ((busy .refresh).bank b).hostSlot ≠ none) ∧
    (takesCommand (run .enterRetention up) ∧ (run .enterRetention up).hpt.state = .retained) ∧
    (run .exitRetention (run .enterRetention up)).hpt.state = .leavingRetention ∧
    (takesCommand (contended 0 0 5) ∧ (contended 0 0 5).hpt.state = .ready ∧
      (∀ b : Bank, ((contended 0 0 5).bank b).phase ≠ .retained) ∧
      (contended 0 0 5).ptl.step = .waiting ⟨5, 3, 0⟩ ∧ (contended 0 0 5).mnt.hold = false ∧
      (contended 0 0 5).mig.state = .copying 3 5 .waiting) :=
  ⟨⟨⟨by decide, by decide⟩, by decide, by decide, by decide⟩,
    ⟨⟨by decide, by decide⟩, by decide, 3, .inl (by decide)⟩, ⟨⟨by decide, by decide⟩, by decide⟩, by decide,
    ⟨by decide, by decide⟩, by decide, by decide, by decide, by decide, by decide⟩

theorem test_meets_restart_patrol :
    (takesCommand up ∧ up.ptl.step = .none) ∧
    (takesCommand (contended 0 0 5) ∧ (contended 0 0 5).ptl.step = .waiting ⟨5, 3, 0⟩) ∧
    (takesCommand (scrubbing ⟨5, 3, 30⟩ false) ∧
      (scrubbing ⟨5, 3, 30⟩ false).ptl.step = .running ⟨5, 3, 30⟩ false) :=
  ⟨⟨⟨by decide, by decide⟩, rfl⟩, ⟨⟨by decide, by decide⟩, rfl⟩, ⟨⟨by decide, by decide⟩, rfl⟩⟩

/-! ### Translation, records, reports -/

theorem test_meets_translation :
    (pendingTable (some 2) 0).Agrees ∧
    (∀ e ∈ (pendingTable (some 2) 0).entries, ∀ e' ∈ (pendingTable (some 2) 0).entries,
      e.isPending = true → e'.isPending = true → e = e') ∧
    (pendingTable (some 2) 0).entry? 5 = some ⟨5, .pending (some 2) 0 7 0, .volatile⟩ ∧
    (pendingTable none 0).entry? 5 = some ⟨5, .pending none 0 7 0, .volatile⟩ ∧
    (pendingTable none 0).entry? 6 = none ∧
    ((remapped .volatile).remap 3).entry? 5 = some ⟨5, .active 0, .volatile⟩ ∧
    ((6 : LineNo) < 7 ∧ (7 : LineNo) ≤ 7) :=
  ⟨pendingTable_agrees _ _ (.inr rfl), by decide, by decide, by decide, by decide, by decide, by decide⟩

/-- A notice of a corrected line of row 5 of bank 3. -/
def corrected5 : Notice := ⟨3, 5, 5, 31, false, .hostRead⟩

theorem test_meets_notice :
    ((clearing 5 30).bank corrected5.bank).condition = .clearing ∧
    ((formatted.bank corrected5.bank).condition ≠ .clearing ∧
      (formatted.remap corrected5.bank).inUse corrected5.row = true ∧
      formatted.frt.slotOf? 3 5 = none ∧ formatted.frt.slot 0 = none ∧
      ∀ j < (0 : Fin 32), formatted.frt.slot j ≠ none) ∧
    (selecting.frt.slotOf? 3 5 = some 4 ∧ selecting.frt.slot 4 ≠ none) := by decide

/-- A full table of records of bank 0, all in one state. -/
def fullTable (v : RecordState) : State :=
  formatted.setFrt { up.frt with
    slots := Vector.ofFn fun i : Fin 32 => some ⟨0, ⟨i.val, by omega⟩, none, 1, 0, 0, 0, 0, v⟩ }

theorem test_meets_eviction :
    ((fullTable .stuck).frt.slotOf? 3 5 = none ∧ ∀ i : Fin 32, (fullTable .stuck).frt.slot i ≠ none) ∧
    ((fullTable .watch).frt.evictionSlot? (fullTable .watch).ptl.pass = some 0 ∧
      (fullTable .watch).frt.slotOf? 3 5 = none ∧ ∀ i : Fin 32, (fullTable .watch).frt.slot i ≠ none) ∧
    (∀ (i : Fin 32) (r : FaultRecord), (fullTable .stuck).frt.slot i = some r → r.state ≠ .watch) := by
  refine ⟨by decide, by decide, fun i r h => ?_⟩
  have key : ∀ i : Fin 32, ((fullTable .stuck).frt.slot i).map FaultRecord.state = some .stuck := by decide
  have := key i
  rw [h] at this
  intro hw
  rw [Option.map_some, hw] at this
  exact absurd this (by decide)

theorem test_meets_notice_in_a_full_table :
    ((fullTable .watch).bank corrected5.bank).condition ≠ .clearing ∧
    ((fullTable .watch).remap corrected5.bank).inUse corrected5.row = true ∧
    (fullTable .watch).frt.slotOf? corrected5.bank corrected5.row = none ∧
    (∀ j : Fin 32, (fullTable .watch).frt.slot j ≠ none) ∧
    (fullTable .watch).frt.evictionSlot? (fullTable .watch).ptl.pass = some 0 := by decide

theorem selecting_candidates : CandidateInv selecting := by
  have key : ∀ i : Fin 32, i ≠ 4 → selecting.frt.slot i = none := by decide
  refine ⟨by decide, fun i => ⟨fun h => ?_, fun ⟨r, h, _⟩ => ?_⟩⟩
  · have : i = 4 := List.mem_singleton.mp h
    subst this
    exact ⟨_, rfl, rfl⟩
  · by_cases hi : i = 4
    · subst hi
      exact List.mem_singleton.mpr rfl
    · rw [key i hi] at h
      exact absurd h nofun

theorem test_meets_decay_and_reports :
    (∃ r, selecting.frt.slot 4 = some r) ∧ selecting.frt.slot 0 = none ∧ CandidateInv selecting ∧
    up.uer.reports.length < 8 ∧
    8 ≤ (up.setUer ⟨List.replicate 8 ⟨3, 5, 5, 0, .copy, 1⟩, false⟩).uer.reports.length ∧
    corrected5.uncorrectable = false ∧ ({ corrected5 with uncorrectable := true } : Notice).uncorrectable = true :=
  ⟨⟨_, rfl⟩, by decide, selecting_candidates, by decide, by decide, rfl, rfl⟩

/-! ### Invariants -/

theorem test_meets_array_step :
    (busy (.clearLine 0 0)).array.wf = true ∧ exec (.clearLine 3) (busy (.clearLine 0 0)) =
      .next (run (.clearLine 3) (busy (.clearLine 0 0))) := ⟨by decide, rfl⟩

theorem test_meets_request_step :
    RequestInv ((waiting .formatted).setPending [.dispatch]) ∧
    ∃ t, step ((waiting .formatted).setPending [.dispatch]) = .next t := by
  have h := waiting_inv .formatted
  exact ⟨⟨h.tags, h.buffers, h.locked, h.inHand, h.single, h.room⟩, _, rfl⟩

theorem test_meets_remap_and_record_step :
    RemapInv (recorded.setPending [.abortMigration]) ∧ RecordInv (recorded.setPending [.abortMigration]) ∧
    ∃ t, step (recorded.setPending [.abortMigration]) = .next t := by
  have h := recorded_remap_inv
  have h' := recorded_inv
  exact ⟨⟨h.banks, h.pending, h.start⟩, ⟨h'.distinct, h'.migrating⟩, _, rfl⟩

/-- The copy of line 7 in progress at bank 3, for the engine's request. -/
def copyBusy : State := busy (.copyLine 5 5 0 7) (copying none 0 false false)

theorem copyBusy_inv : RemapInv copyBusy ∧ CopyInv copyBusy := by
  have h := copying_inv none 0 false false (.inl rfl)
  have hm : copyBusy.mig.state = .copying 3 5 (.running false false) := rfl
  have hs : ∀ b : Bank, (copyBusy.bank b).migrationSlot = false := by decide
  have hp : ∀ b : Bank, b ≠ 3 → (copyBusy.bank b).phase = .idle := by decide
  have h3 : (copyBusy.bank 3).phase = .busy (.copyLine 5 5 0 7) .deliver := by decide
  refine ⟨⟨h.banks, h.pending, h.start⟩, fun b => ?_, fun b l p x n hb => ?_, fun b l p a hb => ?_⟩
  · rw [hs, hm]
    simp
  · by_cases hb3 : b = 3
    · subst hb3
      rw [h3] at hb
      cases hb
      exact ⟨⟨_, _, hm⟩, none, 0, .volatile, copying_mem none 0 false false, rfl⟩
    · rw [hp b hb3] at hb
      exact absurd hb nofun
  · rw [hm] at hb
    cases hb
    exact ⟨_, _, _, h3⟩

theorem test_meets_copy_step :
    RemapInv (copyBusy.setPending [.copyLine 3 []]) ∧ CopyInv (copyBusy.setPending [.copyLine 3 []]) ∧
    ∃ t, step (copyBusy.setPending [.copyLine 3 []]) = .next t := by
  obtain ⟨h, h'⟩ := copyBusy_inv
  exact ⟨⟨h.banks, h.pending, h.start⟩, ⟨h'.slot, h'.copy, h'.running⟩, _, rfl⟩

theorem test_meets_candidate_step :
    CandidateInv (selecting.setPending [.autoSelection]) ∧
    ∃ t, step (selecting.setPending [.autoSelection]) = .next t := by
  have h := selecting_candidates
  exact ⟨⟨h.once, h.exact⟩, _, rfl⟩

theorem test_meets_burn_step :
    BurnInv ((burning 1 false).setPending [.burnAttemptEnd true]) ∧
    (∃ t, step ((burning 1 false).setPending [.burnAttemptEnd true]) = .next t) ∧
    (stored.rps.slot 47 = .written 3 5 9) ∧ stored.rps.slot 47 ≠ .blank := by
  refine ⟨fun u h => ?_, ⟨_, rfl⟩, by decide, by decide⟩
  have : (⟨3, 5, 0, 1, 1⟩ : Burn) = u := Option.some.inj h
  subst this
  decide

theorem test_meets_event_report_cursor_step :
    (∃ t, step (scrubbing ⟨5, 3, 30⟩ false) = .next t) ∧ EventInv (scrubbing ⟨5, 3, 30⟩ false) ∧
    ReportInv (scrubbing ⟨5, 3, 30⟩ false) ∧ PatrolInv (scrubbing ⟨5, 3, 30⟩ false) :=
  ⟨⟨_, rfl⟩, ⟨by decide, by decide⟩, ⟨by decide, nofun⟩, fun _ => rfl⟩

theorem scrubbing_step_inv : StepInv (scrubbing ⟨5, 3, 30⟩ false) := by
  have hs : ∀ b : Bank, ((scrubbing ⟨5, 3, 30⟩ false).bank b).patrolSlot = none := by decide
  have hp : ∀ b : Bank, b ≠ 3 → ((scrubbing ⟨5, 3, 30⟩ false).bank b).phase = .idle := by decide
  have h3 : ((scrubbing ⟨5, 3, 30⟩ false).bank 3).phase = .busy (.scrubLine ⟨5, none⟩ 30 5) .deliver := by
    decide
  have hq : (scrubbing ⟨5, 3, 30⟩ false).ptl.step = .running ⟨5, 3, 30⟩ false := rfl
  refine ⟨fun b q => ?_, fun b rows n l hb => ?_, fun p m hb => ?_⟩
  · rw [hs, hq]
    simp
  · by_cases hb3 : b = 3
    · subst hb3
      rw [h3] at hb
      cases hb
      exact ⟨_, hq⟩
    · rw [hp b hb3] at hb
      exact absurd hb nofun
  · rw [hq] at hb
    cases hb
    exact ⟨_, _, h3⟩

/-- CLEAR BANK of bank 0 just taken. -/
def clearTaken : State := run .clearBank up

theorem clearTaken_inv : RemapInv clearTaken ∧ CopyInv clearTaken ∧ CommandInv clearTaken := by
  have hm : clearTaken.mig.state = .idle := rfl
  have hr : ∀ b : Bank, clearTaken.remap b = .initial := by decide
  have hb : ∀ b : Bank, (clearTaken.bank b).migrationSlot = false ∧ (clearTaken.bank b).clearSlot = none ∧
      (clearTaken.bank b).phase = .idle := by decide
  have hc : ∀ b : Bank, (clearTaken.bank b).condition = .clearing ↔ b = 0 := by decide
  have hk : clearTaken.mnt.clear = some ⟨0, ⟨0, 0⟩⟩ := by decide
  have hn : clearTaken.mnt.running = some ⟨.clearBank, .initial⟩ := by decide
  have hh : clearTaken.hpt.state = .ready := by decide
  refine ⟨⟨fun b => ?_, fun b l => ?_, fun h => absurd h (by rw [hh]; decide)⟩,
    ⟨fun b => ?_, fun b l p x n h => ?_, fun b l p a h => ?_⟩,
    ⟨fun b => ?_, fun b => ?_, fun b q h => ?_, fun b row n h => ?_, ?_, ?_, ?_, ?_⟩⟩
  · rw [hr]
    exact initial_agrees
  · rw [hr, hm]
    simp [BankRemap.initial, EngineState.moves]
  · rw [(hb b).1, hm]
    simp
  · rw [(hb b).2.2] at h
    exact absurd h nofun
  · rw [hm] at h
    exact absurd h nofun
  · rw [hk, hn]
    simp [MntArg.initial]
  · rw [hc, hk]
    simp [eq_comm]
  · rw [(hb b).2.1] at h
    exact absurd h nofun
  · rw [(hb b).2.2] at h
    exact absurd h nofun
  · rw [hm, hn]
    simp
  · have : clearTaken.rps.burn = none := rfl
    rw [this, hn]
    simp
  · rw [hh, hn]
    simp
  · rw [hh, hn]
    simp

theorem test_meets_step_and_command_step :
    StepInv (scrubbing ⟨5, 3, 30⟩ false) ∧
    (RemapInv (clearTaken.setPending [.clearLinePlace]) ∧ CopyInv (clearTaken.setPending [.clearLinePlace]) ∧
      CommandInv (clearTaken.setPending [.clearLinePlace]) ∧
      ∃ t, step (clearTaken.setPending [.clearLinePlace]) = .next t) := by
  obtain ⟨h, h', k⟩ := clearTaken_inv
  exact ⟨scrubbing_step_inv, ⟨h.banks, h.pending, h.start⟩, ⟨h'.slot, h'.copy, h'.running⟩,
    ⟨k.clear, k.clearing, k.clearSlot, k.clearLine, k.abort, k.burn, k.entry, k.exit⟩, _, rfl⟩

theorem test_meets_retention_step :
    RetentionInv (lastEntering.setPending [.hold]) ∧ ∃ t, step (lastEntering.setPending [.hold]) = .next t := by
  refine ⟨⟨?_, fun h => absurd h nofun⟩, _, rfl⟩
  have hs : (lastEntering.setPending [.hold]).hpt.state = .enteringRetention := rfl
  rw [hs]
  have key : ∀ b : Bank, ((lastEntering.setPending [.hold]).bank b).phase = .retained →
      ((lastEntering.setPending [.hold]).bank b).debt = 0 ∧
        ((lastEntering.setPending [.hold]).bank b).hostSlot = none := by decide
  exact fun b h => ⟨(key b h).1, (key b h).2, .inl rfl⟩

end Sys2Proof.Tests
end

section
/-! The end of REFRESH (R20). -/

namespace Sys2Proof.Machine

/-! ### A bank section is all that changes -/

theorem State.setBank_keepsAllBut (s : State) (b : Bank) (k : BankSection) :
    keepsAllBut [.bsq] s (s.setBank b k) := by
  simp [keepsAllBut_iff]

theorem idleBank_keepsAllBut (b : Bank) (s : State) : keepsAllBut [.bsq] s (idleBank b s) :=
  s.setBank_keepsAllBut b _

/-! ### REFRESH ended, its bank not yet settled -/

/-- Bank `b` with its debt lowered and IDLE again, as the end of REFRESH leaves it before it settles (R20, R34). -/
def refreshEnded (b : Bank) (s : State) : State :=
  idleBank b (s.setBank b { s.bank b with debt := lowerDebt (s.bank b).debt })

@[simp] theorem refreshEnded_bank (b : Bank) (s : State) :
    (refreshEnded b s).bank b = { s.bank b with phase := .idle, debt := lowerDebt (s.bank b).debt } := by
  simp [refreshEnded]

theorem refreshEnded_bank_ne (b : Bank) (s : State) : keepsOtherBanks b s (refreshEnded b s) := by
  intro c hc
  calc (refreshEnded b s).bank c
      = (s.setBank b { s.bank b with debt := lowerDebt (s.bank b).debt }).bank c :=
        idleBank_bank_ne b _ c hc
    _ = s.bank c := s.bank_setBank_ne _ hc

theorem refreshEnded_keepsAllBut (b : Bank) (s : State) : keepsAllBut [.bsq] s (refreshEnded b s) :=
  keepsAllBut_trans (s.setBank_keepsAllBut b _) (idleBank_keepsAllBut b _)

/-! ### The command -/

/-- REFRESH has no requester and no notice, so the disposition makes no difference to its end (R20, R34). -/
theorem endRefresh_eq (b : Bank) (d : Disposition) (s : State) :
    endRefresh b d s = settleBank b (refreshEnded b s) := by
  cases d with
  | deliver => rfl
  | discard => rfl

theorem exec_refresh_of_busy {b : Bank} {s : State} {d : Disposition}
    (h : (s.bank b).phase = .busy .refresh d) :
    exec (.refresh b) s = .next (settleBank b (refreshEnded b s)) := by
  simp only [exec, execRefresh, h, endRefresh_eq]

/-- Settles O21: the end is a change of the bank's own section, and the settling that follows it touches
neither the array nor the count of line reads nor the report queue. -/
theorem refreshEndLowersTheDebt : Obligations.RefreshEndLowersTheDebt := by
  intro b s d h
  have busy : (s.bank b).phase ≠ .idle := by simp [h]
  have kept := refreshEnded_keepsAllBut b s
  have harray : (refreshEnded b s).array = s.array := kept .array (by simp)
  have hreads : (refreshEnded b s).lineReads = s.lineReads := kept .lineReads (by simp)
  have huer : (refreshEnded b s).uer = s.uer := kept .uer (by simp)
  refine ⟨arbitrate_of_not_idle busy, refreshEnded b s, exec_refresh_of_busy h, ?_, ?_,
    refreshEnded_bank_ne b s, kept, ?_, ?_, ?_⟩
  · simp [lowerDebt]
  · simp
  · simp [harray]
  · simp [hreads]
  · simp [huer]

end Sys2Proof.Machine
end

section
/-! The grants of the clear slot and of refresh (R32). -/

namespace Sys2Proof.Machine

/-! ### Choices other than patrol are granted as they stand -/

/-- An IDLE bank's choice of a claim other than patrol is granted at once: only a patrol step can be stale
(R26, R33). -/
theorem arbitrate_of_choice_ne_patrol {b : Bank} {s : State} {c : Claim} (idle : (s.bank b).phase = .idle)
    (chosen : (s.bank b).choice s.hpt.state = some c) (hc : c ≠ .patrol) : arbitrate b s = grant b c s := by
  have fresh : staleChosen b s = false := staleChosen_of_ne (by simpa [chosen] using hc)
  exact arbitrate_of_choice idle chosen fresh

theorem arbitrate_of_clear {b : Bank} {s : State} {p : RowLine} (idle : (s.bank b).phase = .idle)
    (chosen : (s.bank b).choice s.hpt.state = some .clear) (slot : (s.bank b).clearSlot = some p) :
    arbitrate b s = grantClear b p s := by
  rw [arbitrate_of_choice_ne_patrol idle chosen nofun]
  simp only [grant, slot]

theorem arbitrate_of_refresh {b : Bank} {s : State} (idle : (s.bank b).phase = .idle)
    (chosen : (s.bank b).choice s.hpt.state = some .refresh ∨
      (s.bank b).choice s.hpt.state = some .urgentRefresh) :
    arbitrate b s = grantRefresh b s := by
  obtain plain | urgent := chosen
  · exact arbitrate_of_choice_ne_patrol idle plain nofun
  · exact arbitrate_of_choice_ne_patrol idle urgent nofun

/-! ### The bank after each grant -/

@[simp] theorem grantClear_bank (b : Bank) (p : RowLine) (s : State) :
    (grantClear b p s).bank b =
      { s.bank b with phase := .busy (.clearLine p.row p.line) .deliver, clearSlot := none } :=
  s.bank_setBank_same b _

@[simp] theorem grantRefresh_bank (b : Bank) (s : State) :
    (grantRefresh b s).bank b = { s.bank b with phase := .busy .refresh .deliver } :=
  s.bank_setBank_same b _

theorem grantClear_keepsAllBut (b : Bank) (p : RowLine) (s : State) :
    keepsAllBut [.bsq] s (grantClear b p s) :=
  s.setBank_keepsAllBut b _

theorem grantRefresh_keepsAllBut (b : Bank) (s : State) : keepsAllBut [.bsq] s (grantRefresh b s) :=
  s.setBank_keepsAllBut b _

/-- Settles O24: neither choice can fall on a stale step, so the arbiter makes the grant on the state as it
stands, and both grants write the bank's own section alone. -/
theorem clearAndRefreshGrants : Obligations.ClearAndRefreshGrants := by
  intro b s idle
  refine ⟨fun p chosen slot => ?_, fun chosen => ?_⟩
  · rw [arbitrate_of_clear idle chosen slot]
    exact ⟨grantClear_bank b p s, grantClear_bank_ne b p s, grantClear_keepsAllBut b p s⟩
  · rw [arbitrate_of_refresh idle chosen]
    exact ⟨grantRefresh_bank b s, grantRefresh_bank_ne b s, grantRefresh_keepsAllBut b s⟩

end Sys2Proof.Machine
end

section
/-! DISPATCH and the answer of an UNFORMATTED bank (R37, R62, R70). -/

namespace Sys2Proof.Machine

/-! ### Line buffers -/

@[simp] theorem Buffers.line_setLine_same (u : Buffers) (i : BufferIdx) (v : LineBuffer) :
    (u.setLine i v).line i = v := by
  simp [Buffers.line, Buffers.setLine]

theorem Buffers.line_setLine_ne (u : Buffers) {i j : BufferIdx} (v : LineBuffer) (h : j ≠ i) :
    (u.setLine i v).line j = u.line j := by
  have : i.val ≠ j.val := fun e => h (Fin.ext e.symm)
  simp [Buffers.line, Buffers.setLine, this]

@[simp] theorem Buffers.setLine_selected (u : Buffers) (i : BufferIdx) (v : LineBuffer) :
    (u.setLine i v).selected = u.selected := rfl

@[simp] theorem Buffers.setLine_index (u : Buffers) (i : BufferIdx) (v : LineBuffer) :
    (u.setLine i v).index = u.index := rfl

/-! ### Completion -/

/-- What `completeRequest` does is what R70 asks of a completion, with the words of R71. -/
theorem completeRequest_completes (q : Request) (o : HostOutcome) (f : Bool) (d : Option LineWords)
    (s : State) :
    requestCompleted q o f (completedWords (s.buf.line q.buffer).words d) s (completeRequest q o f d s) := by
  refine ⟨rfl, rfl, ?_, fun i hi => ?_, rfl, rfl⟩
  · exact Buffers.line_setLine_same ..
  · exact Buffers.line_setLine_ne _ _ hi

theorem completeRequest_keepsAllBut (q : Request) (o : HostOutcome) (f : Bool) (d : Option LineWords)
    (s : State) : keepsAllBut [.req, .buf, .cpl] s (completeRequest q o f d s) := by
  simp [keepsAllBut_iff]

/-- A launch changes requests of that tag alone, so it makes no difference to what is left without them. -/
theorem RequestQueue.launch_filter_ne (r : RequestQueue) (tag : BitVec 8) :
    (r.launch tag).held.filter (fun h => h.request.tag != tag) =
      r.held.filter (fun h => h.request.tag != tag) := by
  simp only [RequestQueue.launch]
  induction r.held with
  | nil => rfl
  | cons h rest ih => by_cases same : h.request.tag = tag <;> simp [same, ih]

/-- The completion of a request just launched is its completion without the launch. -/
theorem completeRequest_launch (q : Request) (o : HostOutcome) (f : Bool) (d : Option LineWords) (s : State) :
    completeRequest q o f d (s.setReq (s.req.launch q.tag)) = completeRequest q o f d s := by
  have left := s.req.launch_filter_ne q.tag
  simp only [completeRequest, State.setReq_req, left]
  rfl

/-! ### Dispatch -/

/-- A request whose bank is CLEARING is not eligible (R62). -/
theorem eligible_of_clearing {s : State} {h : HeldRequest}
    (clearing : (s.bank h.request.bank).condition = .clearing) : eligible s h = false := by
  simp [eligible, clearing]

/-- The oldest eligible request is the first in the collection that is eligible (R62). -/
theorem oldestEligible?_of_held {s : State} {older younger : List HeldRequest} {h : HeldRequest}
    (held : s.req.held = older ++ h :: younger) (passed : ∀ g ∈ older, eligible s g = false)
    (takes : eligible s h = true) : oldestEligible? s = some h := by
  have skipped : older.find? (eligible s) = none := by simpa using passed
  simp [oldestEligible?, held, List.find?_append, skipped, takes]

theorem exec_dispatch_of_oldest {s : State} {h : HeldRequest} (oldest : oldestEligible? s = some h) :
    exec .dispatch s = .next (dispatchRequest h.request s) := by
  simp only [exec, execDispatch, oldest]

/-- A request for an UNFORMATTED bank is answered without grant, whatever the bank's phase (R37). -/
theorem dispatchRequest_of_unformatted {q : Request} {s : State}
    (unformatted : (s.bank q.bank).condition = .unformatted) :
    dispatchRequest q s = completeRequest q .notFormatted false none s := by
  simp only [dispatchRequest, unformatted, if_true, completeRequest_launch]

/-- A request launched and placed in the host slot of its bank, before that bank's arbiter chooses (R62). -/
def requestPlaced (q : Request) (s : State) : State :=
  (s.setReq (s.req.launch q.tag)).setBank q.bank { s.bank q.bank with hostSlot := some q }

@[simp] theorem requestPlaced_bank (q : Request) (s : State) :
    (requestPlaced q s).bank q.bank = { s.bank q.bank with hostSlot := some q } :=
  State.bank_setBank_same ..

/-- A request for a bank that is not UNFORMATTED goes to the host slot, and the arbiter chooses (R26, R62). -/
theorem dispatchRequest_of_not_unformatted {q : Request} {s : State}
    (usable : (s.bank q.bank).condition ≠ .unformatted) :
    dispatchRequest q s = arbitrate q.bank (requestPlaced q s) := by
  simp only [dispatchRequest, usable, if_false]
  rfl

/-- Settles O28: DISPATCH finds the given request, whose bank's condition alone decides between the answer
at once and the host slot. -/
theorem unformattedBankAnswersAtOnce : Obligations.UnformattedBankAnswersAtOnce := by
  refine ⟨?_, ?_, fun s h => eligible_of_clearing⟩
  · intro s older younger q _ held passed takes unformatted
    have happens := exec_dispatch_of_oldest (oldestEligible?_of_held held passed takes)
    rw [dispatchRequest_of_unformatted unformatted] at happens
    have kept := completeRequest_keepsAllBut q .notFormatted false none s
    exact ⟨_, happens, kept .bsq (by simp), completeRequest_completes q .notFormatted false none s, kept⟩
  · intro s older younger q _ held passed takes formatted
    have happens := exec_dispatch_of_oldest (oldestEligible?_of_held held passed takes)
    rw [dispatchRequest_of_not_unformatted (by simp [formatted])] at happens
    exact ⟨requestPlaced q s, happens, by simp⟩

end Sys2Proof.Machine
end

section
/-! RESTART PATROL (R147, R183). -/

namespace Sys2Proof.Machine

/-! ### A command taken and completed -/

/-- A unit that takes a command runs its body on the argument of that write (R170). -/
theorem takeCommand_of_takesCommand {s : State} (takes : takesCommand s) (c : MntCommand)
    (body : MntArg → State → State) : takeCommand c body s = body s.mnt.arg (beginCommand c s) := by
  obtain ⟨isOpen, idle⟩ := takes
  simp only [takeCommand, State.onWrite, isOpen, if_true, idle]

/-- Completing at its own write a command that the unit took while IDLE leaves the unit IDLE (R170, R172). -/
theorem completeCommand_mnt_of_begun {s t : State} {c : MntCommand} (idle : s.mnt.running = none)
    (begun : t.mnt = (beginCommand c s).mnt) (r : MntResult) :
    (completeCommand r t).mnt = mntCompleted c r s := by
  change { t.mnt with running := none, lastResult := r } = mntCompleted c r s
  rw [begun, mntCompleted, ← idle]
  rfl

theorem completeCommand_latchesOnly (r : MntResult) (s : State) :
    latchesOnly .maintDone s (completeCommand r s) := rfl

/-! ### Events -/

/-- No two events share a bit (Table 11-1). -/
theorem Event.bit_and_bit_of_ne {e f : Event} (h : f ≠ e) : e.bit &&& f.bit = 0#32 := by
  revert h
  cases e <;> cases f <;> decide

/-- An event that is latched makes no difference to whether another one is (R186). -/
theorem isLatched_of_latchesOnly {e f : Event} {s t : State} (latched : latchesOnly e s t) (h : f ≠ e) :
    t.isLatched f = s.isLatched f := by
  have same : (s.evt.latched ||| e.bit) &&& f.bit = s.evt.latched &&& f.bit := by
    rw [BitVec.and_comm, BitVec.and_or_distrib_left, BitVec.and_comm f.bit e.bit,
      Event.bit_and_bit_of_ne h, BitVec.or_zero, BitVec.and_comm]
  rw [State.isLatched, latched, same, State.isLatched]

/-! ### The cursor restarted -/

/-- What RESTART PATROL makes of the outstanding step: a waiting one is withdrawn, a running one marked
(R147). -/
def PatrolStep.restarted : PatrolStep → PatrolStep
  | .none => .none
  | .waiting _ => .none
  | .running p _ => .running p true

@[simp] theorem withdrawStepAt_ptl (p : Position) (s : State) :
    (withdrawStepAt p s).ptl = { s.ptl with step := .none } := rfl

@[simp] theorem withdrawStepAt_bank (p : Position) (s : State) :
    (withdrawStepAt p s).bank p.bank = { s.bank p.bank with patrolSlot := none, patrolAge := 0 } :=
  (forgetStep s).bank_setBank_same p.bank _

theorem withdrawStepAt_bank_ne (p : Position) (s : State) : keepsOtherBanks p.bank s (withdrawStepAt p s) :=
  fun _ hc => (forgetStep s).bank_setBank_ne _ hc

theorem restartCursor_ptl (s : State) :
    (restartCursor s).ptl = { s.ptl with cursor := .start, step := s.ptl.step.restarted } := by
  cases outstanding : s.ptl.step with
  | none => simp [restartCursor, outstanding, PatrolStep.restarted]
  | waiting p => simp [restartCursor, outstanding, PatrolStep.restarted]
  | running p m => simp [restartCursor, outstanding, PatrolStep.restarted]

/-- A bank section changes only by the withdrawal of a step that waits there (R147). -/
theorem restartCursor_banks {s : State} (unplaced : ∀ p, s.ptl.step ≠ .waiting p) :
    (restartCursor s).banks = s.banks := by
  cases outstanding : s.ptl.step with
  | none => simp [restartCursor, outstanding]
  | waiting p => exact absurd outstanding (unplaced p)
  | running p m => simp [restartCursor, outstanding]

/-- A waiting step leaves its slot as at every withdrawal, the age 0 (R23, R147). -/
theorem restartCursor_bank_of_waiting {s : State} {p : Position} (outstanding : s.ptl.step = .waiting p)
    (b : Bank) : (restartCursor s).bank b = (withdrawStepAt p s).bank b := by
  simp only [restartCursor, outstanding, State.bank_setPtl]

/-! ### The command -/

/-- The state in which RESTART PATROL leaves a unit that takes it. -/
def patrolRestarted (s : State) : State :=
  completeCommand .done (restartCursor (beginCommand .restartPatrol s))

theorem exec_restartPatrol_of_takesCommand {s : State} (takes : takesCommand s) :
    exec .restartPatrol s = .next (patrolRestarted s) := by
  simp only [exec, execRestartPatrol, takeCommand_of_takesCommand takes]
  rfl

theorem patrolRestarted_latchesOnly (s : State) : latchesOnly .maintDone s (patrolRestarted s) := by
  have completed := completeCommand_latchesOnly .done (restartCursor (beginCommand .restartPatrol s))
  simpa [latchesOnly, patrolRestarted] using completed

theorem patrolRestarted_ptl (s : State) :
    (patrolRestarted s).ptl = { s.ptl with cursor := .start, step := s.ptl.step.restarted } := by
  simp [patrolRestarted, restartCursor_ptl]

theorem patrolRestarted_banks {s : State} (unplaced : ∀ p, s.ptl.step ≠ .waiting p) :
    (patrolRestarted s).banks = s.banks := by
  have kept := restartCursor_banks (s := beginCommand .restartPatrol s) (by simpa using unplaced)
  simpa [patrolRestarted] using kept

theorem patrolRestarted_bank_of_waiting {s : State} {p : Position} (outstanding : s.ptl.step = .waiting p)
    (b : Bank) : (patrolRestarted s).bank b = (withdrawStepAt p s).bank b := by
  have begun : (beginCommand .restartPatrol s).ptl.step = .waiting p := by simp [outstanding]
  calc (patrolRestarted s).bank b
      = (restartCursor (beginCommand .restartPatrol s)).bank b := completeCommand_bank ..
    _ = (withdrawStepAt p (beginCommand .restartPatrol s)).bank b := restartCursor_bank_of_waiting begun b
    _ = (withdrawStepAt p s).bank b := rfl

theorem patrolRestarted_keepsAllBut (s : State) :
    keepsAllBut [.bsq, .ptl, .mnt, .evt] s (patrolRestarted s) := by
  simp [keepsAllBut_iff, patrolRestarted]

/-- Settles O47: the cursor goes to the start whatever is outstanding, and the step outstanding decides
alone what becomes of it and of the bank in whose slot it waits. -/
theorem restartPatrolMovesTheCursor : Obligations.RestartPatrolMovesTheCursor := by
  intro s takes
  have idle : s.mnt.running = none := takes.2
  have ptl := patrolRestarted_ptl s
  refine ⟨patrolRestarted s, exec_restartPatrol_of_takesCommand takes, ?_, patrolRestarted_latchesOnly s,
    ?_, ?_, ?_, ?_, ?_, ?_, ?_, patrolRestarted_keepsAllBut s⟩
  · exact completeCommand_mnt_of_begun idle (by simp) .done
  · simp [ptl, Position.start]
  · simp [ptl]
  · simp [ptl]
  · exact isLatched_of_latchesOnly (patrolRestarted_latchesOnly s) nofun
  · intro outstanding
    exact ⟨by simp [ptl, outstanding, PatrolStep.restarted], patrolRestarted_banks (by simp [outstanding])⟩
  · intro p outstanding
    have bank := patrolRestarted_bank_of_waiting outstanding
    refine ⟨by simp [ptl, outstanding, PatrolStep.restarted], fun c hc => ?_, ?_⟩
    · rw [bank, withdrawStepAt_bank_ne p s c hc]
    · rw [bank, withdrawStepAt_bank]
  · intro p m outstanding
    exact ⟨by simp [ptl, outstanding, PatrolStep.restarted], patrolRestarted_banks (by simp [outstanding])⟩

end Sys2Proof.Machine
end

section
/-! FRT_ENTRY_A and the two holding words (R134, R196). -/

namespace Sys2Proof.Machine

/-! ### Fields placed in a word (Table 11-4) -/

theorem place_toNat {low value : Nat} (fits : value * 2 ^ low < 2 ^ 32) :
    (place low value).toNat = value * 2 ^ low := by
  have small : value < 2 ^ 32 := lt_of_le_of_lt (Nat.le_mul_of_pos_right value (by positivity)) fits
  rw [place, BitVec.toNat_shiftLeft, BitVec.toNat_ofNat, Nat.mod_eq_of_lt small, Nat.shiftLeft_eq,
    Nat.mod_eq_of_lt fits]

theorem place_zero_toNat {value : Nat} (fits : value < 2 ^ 32) : (place 0 value).toNat = value := by
  simpa using place_toNat (low := 0) (value := value) (by simpa using fits)

/-- A field placed above all the bits set so far adds its value: the fields of a word do not overlap. -/
theorem or_place_toNat {x : Word} {lower low value : Nat} (sofar : x.toNat = lower) (below : lower < 2 ^ low)
    (fits : value * 2 ^ low < 2 ^ 32) : (x ||| place low value).toNat = lower + value * 2 ^ low := by
  rw [BitVec.toNat_or, place_toNat fits, sofar, Nat.or_comm, Nat.mul_comm value,
    ← Nat.two_pow_add_eq_or_of_lt below, Nat.add_comm]

theorem RecordState.code_le_three (v : RecordState) : v.code ≤ 3 := by
  cases v <;> decide

theorem recordWordA_toNat (r : FaultRecord) :
    (recordWordA r).toNat =
      r.row.val + r.lastLine.val * 2 ^ 14 + r.bank.val * 2 ^ 20 + r.state.code * 2 ^ 24 + 2 ^ 31 := by
  have code := r.state.code_le_three
  have row := place_zero_toNat (value := r.row.val) (by omega)
  have line := or_place_toNat (low := 14) (value := r.lastLine.val) row (by omega) (by omega)
  have bank := or_place_toNat (low := 20) (value := r.bank.val) line (by omega) (by omega)
  have state := or_place_toNat (low := 24) (value := r.state.code) bank (by omega) (by omega)
  exact or_place_toNat (low := 31) (value := 1) state (by omega) (by decide)

theorem recordWordB_toNat (r : FaultRecord) :
    (recordWordB r).toNat =
      (r.logical.getD 0).val + r.correctable.val * 2 ^ 16 + r.uncorrectable.val * 2 ^ 24 := by
  have row := place_zero_toNat (value := (r.logical.getD 0).val) (by omega)
  have correctable := or_place_toNat (low := 16) (value := r.correctable.val) row (by omega) (by omega)
  exact or_place_toNat correctable (by omega) (by omega)

theorem recordWordC_toNat (r : FaultRecord) :
    (recordWordC r).toNat = r.firstPass.toNat + r.lastPass.toNat * 2 ^ 16 := by
  have first := place_zero_toNat (value := r.firstPass.toNat) (by omega)
  exact or_place_toNat first (by omega) (by omega)

/-! ### Accesses of an open window -/

theorem State.onWrite_of_open {s : State} (isOpen : s.windowOpen = true) (effect : State → State) :
    s.onWrite effect = effect s := by
  simp only [State.onWrite, isOpen, if_true]

theorem State.onRead_of_open {s : State} (isOpen : s.windowOpen = true) (effect : State → State) :
    s.onRead effect = effect s := by
  simp only [State.onRead, isOpen, if_true]

/-! ### The read of FRT_ENTRY_A -/

theorem exec_frtEntryARead_of_open {s : State} (isOpen : s.windowOpen = true) :
    exec .frtEntryARead s = .next (readEntryA s) := by
  simp only [exec, execFrtEntryARead, State.onRead_of_open isOpen]

theorem readEntryA_of_empty {s : State} (empty : s.frt.slot s.frt.select = none) :
    (readEntryA s).readData = 0 ∧ (readEntryA s).frt.holdB = 0 ∧ (readEntryA s).frt.holdC = 0 := by
  simp [readEntryA, entryAWord, selectedRecord?, empty]

/-- All three words of a record are taken at the one read (R196). -/
theorem readEntryA_of_record {s : State} {r : FaultRecord} (record : s.frt.slot s.frt.select = some r) :
    (readEntryA s).readData = recordWordA r ∧ (readEntryA s).frt.holdB = recordWordB r ∧
      (readEntryA s).frt.holdC = recordWordC r := by
  simp [readEntryA, entryAWord, selectedRecord?, record]

theorem readEntryA_keepsAllBut (s : State) : keepsAllBut [.frt, .readData] s (readEntryA s) := by
  simp [keepsAllBut_iff]

/-! ### The write of FRT_SELECT -/

theorem writeRegister_frtSelect (w : Word) (s : State) : writeRegister 0x60 w s = storeFrtSelect w s := rfl

theorem exec_frtSelect_of_open {s : State} (isOpen : s.windowOpen = true) (w : Word) :
    exec (.registerWrite 0x60 w) s = .next (storeFrtSelect w s) := by
  simp only [exec, execRegisterWrite, State.onWrite_of_open isOpen, writeRegister_frtSelect]

theorem storeFrtSelect_keepsAllBut (w : Word) (s : State) : keepsAllBut [.frt] s (storeFrtSelect w s) := by
  simp [keepsAllBut_iff]

/-! ### The holding words at the resets -/

theorem exec_rstAssert_of_started {s : State} (powered : s.powered = true) (released : s.rstAsserted = false)
    (started : inStart s.hpt.state = false) :
    exec .rstAssert s = .next (warmReset { s with rstAsserted := true }) := by
  simp [exec, execRstAssert, assertRst, powered, released, started]

theorem exec_powerOn_of_unpowered {s : State} (unpowered : s.powered = false) :
    exec .powerOn s = .next { powerOnValues s with powered := true } := by
  simp [exec, execPowerOn, applyPower, unpowered]

theorem FaultTable.atReset_holdB (f : FaultTable) : f.atReset.holdB = 0 := by
  unfold FaultTable.atReset; split <;> rfl

theorem FaultTable.atReset_holdC (f : FaultTable) : f.atReset.holdC = 0 := by
  unfold FaultTable.atReset; split <;> rfl

/-! ### The holding words through every change of the table -/

/-- The two holding words, as one value to keep. -/
def FaultTable.holding (f : FaultTable) : Word × Word := (f.holdB, f.holdC)

@[simp] theorem FaultTable.setSlot_holding (f : FaultTable) (i : Fin 32) (r : Option FaultRecord) :
    (f.setSlot i r).holding = f.holding := rfl

@[simp] theorem FaultTable.leave_holding (f : FaultTable) (i : Fin 32) :
    (f.leave i).holding = f.holding := rfl

@[simp] theorem FaultTable.removeSlot_holding (f : FaultTable) (i : Fin 32) :
    (f.removeSlot i).holding = f.holding := rfl

theorem FaultTable.keep_holding (f : FaultTable) (test : FaultRecord → Bool) :
    (f.keep test).holding = f.holding := by
  simp only [FaultTable.holding, FaultTable.keep]

@[simp] theorem FaultTable.decay_holding (f : FaultTable) (now : BitVec 16) :
    (f.decay now).holding = f.holding :=
  f.keep_holding _

@[simp] theorem FaultTable.clearBank_holding (f : FaultTable) (b : Bank) :
    (f.clearBank b).holding = f.holding :=
  f.keep_holding _

@[simp] theorem FaultTable.countIn_holding (f : FaultTable) (i : Fin 32) (r : FaultRecord) (n : Notice)
    (now : BitVec 16) (threshold : Fin 16) : (f.countIn i r n now threshold).holding = f.holding := by
  unfold FaultTable.countIn; dsimp only; split <;> rfl

@[simp] theorem FaultTable.take_holding (f : FaultTable) (b : Bank) (p : PhysRow) :
    (f.take b p).holding = f.holding := by
  unfold FaultTable.take; split <;> rfl

@[simp] theorem FaultTable.release_holding (f : FaultTable) (v : RecordState) :
    (f.release v).holding = f.holding := by
  unfold FaultTable.release; split <;> rfl

@[simp] theorem FaultTable.atCommit_holding (f : FaultTable) : f.atCommit.holding = f.holding := by
  unfold FaultTable.atCommit; split <;> rfl

@[simp] theorem FaultTable.atFailure_holding (f : FaultTable) : f.atFailure.holding = f.holding :=
  f.release_holding .stuck

@[simp] theorem FaultTable.atAbort_holding (f : FaultTable) : f.atAbort.holding = f.holding := by
  unfold FaultTable.atAbort; split
  · rfl
  · exact f.release_holding .candidate

/-! ### The holding words through the shared operations that touch the table -/

@[simp] theorem receiveNotice_holding (n : Notice) (s : State) :
    (receiveNotice n s).frt.holding = s.frt.holding := by
  unfold receiveNotice; (repeat' split) <;> simp

@[simp] theorem sendNotice?_holding (n : Option Notice) (s : State) :
    (sendNotice? n s).frt.holding = s.frt.holding := by
  cases n with
  | none => rfl
  | some n => unfold sendNotice? sendNotice; dsimp only; split <;> simp

@[simp] theorem passEnd_holding (s : State) : (passEnd s).frt.holding = s.frt.holding := by
  simp [passEnd]

@[simp] theorem advanceCursor_holding (p : Position) (s : State) :
    (advanceCursor p s).frt.holding = s.frt.holding := by
  unfold advanceCursor; split <;> simp

@[simp] theorem stepEnds_holding (s : State) : (stepEnds s).frt.holding = s.frt.holding := by
  unfold stepEnds; (repeat' split) <;> simp

@[simp] theorem startMigration_holding (b : Bank) (l : LogicalRow) (s : State) :
    (startMigration b l s).frt.holding = s.frt.holding := by
  unfold startMigration; split <;> simp [startOn]

@[simp] theorem autoSelect_holding (s : State) : (autoSelect s).frt.holding = s.frt.holding := by
  unfold autoSelect; (repeat' split) <;> simp

@[simp] theorem failMigration_holding (b : Bank) (l : LogicalRow) (e : RemapEntry) (s : State) :
    (failMigration b l e s).frt.holding = s.frt.holding := by
  simp [failMigration]

@[simp] theorem applyAbort_holding (b : Bank) (l : LogicalRow) (s : State) :
    (applyAbort b l s).frt.holding = s.frt.holding := by
  unfold applyAbort; split <;> simp

@[simp] theorem copied_holding (pp : Bool) (b : Bank) (l : LogicalRow) (e : RemapEntry) (n : LineNo)
    (s : State) : (copied pp b l e n s).frt.holding = s.frt.holding := by
  unfold copied; split <;> simp [commitMigration]

@[simp] theorem verifyFailed_holding (pp : Bool) (b : Bank) (l : LogicalRow) (e : RemapEntry) (s : State) :
    (verifyFailed pp b l e s).frt.holding = s.frt.holding := by
  unfold verifyFailed; (repeat' split) <;> simp

@[simp] theorem copyEnds_holding (n : LineNo) (verified : Bool) (s : State) :
    (copyEnds n verified s).frt.holding = s.frt.holding := by
  unfold copyEnds; (repeat' split) <;> simp

@[simp] theorem discardStep_holding (b : Bank) (s : State) :
    (discardStep b s).frt.holding = s.frt.holding := by
  simp [discardStep]

@[simp] theorem arbitrate_holding (b : Bank) (s : State) : (arbitrate b s).frt.holding = s.frt.holding := by
  unfold arbitrate; (repeat' split) <;> simp

@[simp] theorem settleBank_holding (b : Bank) (s : State) :
    (settleBank b s).frt.holding = s.frt.holding := by
  unfold settleBank; split <;> simp

@[simp] theorem dispatchRequest_holding (q : Request) (s : State) :
    (dispatchRequest q s).frt.holding = s.frt.holding := by
  unfold dispatchRequest; dsimp only; split <;> simp

@[simp] theorem placeCopy_holding (b : Bank) (l : LogicalRow) (s : State) :
    (placeCopy b l s).frt.holding = s.frt.holding := by
  simp [placeCopy]

@[simp] theorem placeClear_holding (b : Bank) (p : RowLine) (s : State) :
    (placeClear b p s).frt.holding = s.frt.holding := by
  simp [placeClear]

@[simp] theorem placeStep_holding (p : Position) (s : State) :
    (placeStep p s).frt.holding = s.frt.holding := by
  simp [placeStep]

@[simp] theorem issueStep_holding (s : State) : (issueStep s).frt.holding = s.frt.holding := by
  unfold issueStep; (repeat' split) <;> simp

@[simp] theorem refreshExpiry_holding (s : State) : (refreshExpiry s).frt.holding = s.frt.holding := by
  simp [refreshExpiry, allBanks]

/-! ### The holding words at the end of an operation (R34) -/

/-- The end of an operation keeps the holding words if its delivery does: settling and notices keep them. -/
theorem endOperation_holding {deliver : State → State} (b : Bank) (d : Disposition) (n : Option Notice)
    (s : State) (delivery : ∀ t, (deliver t).frt.holding = t.frt.holding) :
    (endOperation b d deliver n s).frt.holding = s.frt.holding := by
  cases d with
  | deliver => simp [endOperation, delivery]
  | discard => simp [endOperation]

@[simp] theorem endRead_holding (b : Bank) (q : Request) (rows : Rows) (f : Bool) (d : Disposition)
    (s : State) : (endRead b q rows f d s).frt.holding = s.frt.holding := by
  rw [endRead, endOperation_holding b d _ _ (by simp)]; simp

@[simp] theorem endWrite_holding (b : Bank) (q : Request) (rows : Rows) (f : Bool) (words : LineWords)
    (d : Disposition) (s : State) : (endWrite b q rows f words d s).frt.holding = s.frt.holding := by
  rw [endWrite, endOperation_holding b d _ _ (by simp)]; simp

@[simp] theorem endMerge_holding (b : Bank) (q : Request) (rows : Rows) (f : Bool) (mask : BitVec 8)
    (words : LineWords) (d : Disposition) (s : State) :
    (endMerge b q rows f mask words d s).frt.holding = s.frt.holding := by
  rw [endMerge, endOperation_holding b d _ _ (by simp)]; simp

@[simp] theorem endScrub_holding (b : Bank) (rows : Rows) (n : LineNo) (l : LogicalRow) (d : Disposition)
    (s : State) : (endScrub b rows n l d s).frt.holding = s.frt.holding := by
  rw [endScrub, endOperation_holding b d _ _ (by simp)]; simp

@[simp] theorem endCopy_holding (b : Bank) (l : LogicalRow) (source : PhysRow) (target : SpareIdx)
    (n : LineNo) (struck : List BitPos) (d : Disposition) (s : State) :
    (endCopy b l source target n struck d s).frt.holding = s.frt.holding := by
  rw [endCopy, endOperation_holding b d _ _ (by simp)]; simp

@[simp] theorem endClear_holding (b : Bank) (row : PhysRow) (n : LineNo) (d : Disposition) (s : State) :
    (endClear b row n d s).frt.holding = s.frt.holding := by
  rw [endClear, endOperation_holding b d _ _ (by simp)]; simp

@[simp] theorem endRefresh_holding (b : Bank) (d : Disposition) (s : State) :
    (endRefresh b d s).frt.holding = s.frt.holding := by
  rw [endRefresh, endOperation_holding b d _ _ (by simp)]; simp

/-- A bank command ends the operation in progress or changes nothing. -/
theorem afterEnd_holding {b : Bank} {s : State} {ends : Operation → Disposition → Option State}
    (keeps : ∀ op d, ∀ t ∈ ends op d, t.frt.holding = s.frt.holding) :
    (afterEnd b s ends).frt.holding = s.frt.holding := by
  cases phase : (s.bank b).phase with
  | idle => simp [afterEnd, phase]
  | retained => simp [afterEnd, phase]
  | busy op d =>
    cases ended : ends op d with
    | none => simp [afterEnd, phase, ended]
    | some t => simp [afterEnd, phase, ended, keeps op d t ended]

/-! ### The holding words through window accesses and maintenance commands -/

/-- A window write keeps the holding words if its effect does. -/
theorem State.onWrite_holding {effect : State → State} (s : State)
    (keeps : ∀ t, (effect t).frt.holding = t.frt.holding) :
    (s.onWrite effect).frt.holding = s.frt.holding := by
  unfold State.onWrite; split
  · exact keeps s
  · rfl

/-- A window read keeps the holding words if its effect does. -/
theorem State.onRead_holding {effect : State → State} (s : State)
    (keeps : ∀ t, (effect t).frt.holding = t.frt.holding) :
    (s.onRead effect).frt.holding = s.frt.holding := by
  unfold State.onRead; (repeat' split) <;> simp [keeps]

/-- A command that is taken keeps the holding words if its body does; one that is refused as busy, or written
at a closed window, always does. -/
theorem takeCommand_holding {body : MntArg → State → State} (c : MntCommand) (s : State)
    (keeps : ∀ a t, (body a t).frt.holding = t.frt.holding) :
    (takeCommand c body s).frt.holding = s.frt.holding := by
  refine s.onWrite_holding fun t => ?_
  split <;> simp [keeps]

theorem clearBankBody_holding (a : MntArg) (s : State) :
    (clearBankBody a s).frt.holding = s.frt.holding := by
  unfold clearBankBody; (repeat' split) <;> simp [beginClear]

theorem migrateRowBody_holding (a : MntArg) (s : State) :
    (migrateRowBody a s).frt.holding = s.frt.holding := by
  unfold migrateRowBody; (repeat' split) <;> simp

theorem abortMigrationBody_holding (a : MntArg) (s : State) :
    (abortMigrationBody a s).frt.holding = s.frt.holding := by
  unfold abortMigrationBody; split <;> simp

theorem dropRecordBody_holding (a : MntArg) (s : State) :
    (dropRecordBody a s).frt.holding = s.frt.holding := by
  unfold dropRecordBody; (repeat' split) <;> simp

theorem commandBody_holding (c : MntCommand) (a : MntArg) (s : State) :
    (commandBody c a s).frt.holding = s.frt.holding := by
  cases c with
  | clearBank => exact clearBankBody_holding a s
  | migrateRow => exact migrateRowBody_holding a s
  | abortMigration => exact abortMigrationBody_holding a s
  | dropRecord => exact dropRecordBody_holding a s
  | burnRow | hold | release | enterRetention | exitRetention | restartPatrol | unknown =>
    simp [commandBody]

@[simp] theorem writeCommand_holding (code : BitVec 8) (s : State) :
    (writeCommand code s).frt.holding = s.frt.holding :=
  takeCommand_holding _ s (commandBody_holding _)

@[simp] theorem plainWrite_holding (o : BitVec 8) (w : Word) (s : State) :
    (plainWrite o w s).frt.holding = s.frt.holding := by
  have select : (storeFrtSelect w s).frt.holding = s.frt.holding := rfl
  unfold plainWrite; (repeat' split) <;> simp [select]

theorem writeRegister_holding (o : BitVec 8) (w : Word) (s : State) :
    (writeRegister o w s).frt.holding = s.frt.holding := by
  unfold writeRegister; (repeat' split) <;> simp

/-! ### The holding words through power, RST and start -/

theorem releaseRst_holding (s : State) : (releaseRst s).frt.holding = s.frt.holding := by
  unfold releaseRst; dsimp only; (repeat' split) <;> simp

theorem endLoading_holding (s : State) : (endLoading s).frt.holding = s.frt.holding := by
  unfold endLoading; split <;> simp

theorem endArrayInit_holding (s : State) : (endArrayInit s).frt.holding = s.frt.holding := by
  unfold endArrayInit; split <;> simp

theorem endRestarting_holding (s : State) : (endRestarting s).frt.holding = s.frt.holding := by
  unfold endRestarting; split <;> simp

/-! ### What changes the holding words -/

/-- The commands that can change the holding words: the read that captures, RST and power (R134, R196). -/
def writesHolding (c : Instr) : Prop :=
  c = .frtEntryARead ∨ c = .rstAssert ∨ c = .powerOn ∨ c = .powerLoss

theorem after_holding {c : Instr} (other : ¬ writesHolding c) (s : State) :
    (after c s).frt.holding = s.frt.holding := by
  cases c with
  | frtEntryARead | rstAssert | powerOn | powerLoss => simp [writesHolding] at other
  | rstRelease => exact releaseRst_holding s
  | loadingEnd => exact endLoading_holding s
  | arrayInitEnd => exact endArrayInit_holding s
  | restartingEnd => exact endRestarting_holding s
  | bitChange | autoSelection | burnAttemptEnd | badCommand => simp [after]
  | refreshTimerExpiry | stepTimerExpiry | retentionExitEnd | dispatch | copyRequestPlace
  | clearLinePlace => dsimp only [after]; split <;> simp
  | readLine | writeLine | mergeLine | scrubLine | copyLine | clearLine | refresh =>
    refine afterEnd_holding fun op d t ended => ?_
    cases op <;> simp only [Option.mem_def, Option.some.injEq, reduceCtorEq] at ended
    simp [← ended]
  | bufDataRead => exact s.onRead_holding (by simp)
  | submit | bufDataWrite | cplPop | uerPop | evtAck | evtMask | hptConfig | ptlInterval =>
    exact s.onWrite_holding (by simp)
  | registerWrite o w => exact s.onWrite_holding (writeRegister_holding o w)
  | clearBank => exact takeCommand_holding _ s clearBankBody_holding
  | migrateRow => exact takeCommand_holding _ s migrateRowBody_holding
  | abortMigration => exact takeCommand_holding _ s abortMigrationBody_holding
  | dropRecord => exact takeCommand_holding _ s dropRecordBody_holding
  | burnRow | hold | release | enterRetention | exitRetention | restartPatrol =>
    exact takeCommand_holding _ s (by simp)

/-- A command that changes a holding word is one of the four that can. -/
theorem writesHolding_of_changed {c : Instr} {s t : State} (happens : exec c s = .next t)
    (changed : t.frt.holdB ≠ s.frt.holdB ∨ t.frt.holdC ≠ s.frt.holdC) : writesHolding c := by
  by_contra other
  have kept := after_holding other s
  rw [← eq_after happens] at kept
  obtain ⟨keptB, keptC⟩ := Prod.mk.inj kept
  exact changed.elim (· keptB) (· keptC)

/-- Settles O36: the read takes all three words of the selected record at once, and of all commands only that
read, RST_ASSERT and the two of power can change the holding words. -/
theorem frtEntryReadCaptures : Obligations.FrtEntryReadCaptures := by
  refine ⟨fun s isOpen => ?_, fun s isOpen => ?_, fun s w isOpen => ?_, ⟨rfl, rfl⟩, ?_, ?_,
    fun c s t => writesHolding_of_changed⟩
  · refine ⟨readEntryA s, exec_frtEntryARead_of_open isOpen, readEntryA_of_empty, fun r record => ?_, rfl,
      readEntryA_keepsAllBut s⟩
    obtain ⟨wordA, wordB, wordC⟩ := readEntryA_of_record record
    rw [wordA, wordB, wordC]
    exact ⟨recordWordA_toNat r, recordWordB_toNat r, recordWordC_toNat r⟩
  · have pass : (readPass s).toNat = s.ptl.pass.toNat := BitVec.toNat_setWidth_of_le (by decide)
    simp [readRegister, isOpen, openRead, pass]
  · exact ⟨storeFrtSelect w s, exec_frtSelect_of_open isOpen w, rfl, rfl, storeFrtSelect_keepsAllBut w s⟩
  · intro s powered released started
    exact ⟨_, exec_rstAssert_of_started powered released started, s.frt.atReset_holdB, s.frt.atReset_holdC⟩
  · intro s unpowered
    exact ⟨_, exec_powerOn_of_unpowered unpowered, rfl, rfl⟩

end Sys2Proof.Machine
end

section
/-! One rule for all commands: a property that every primitive change of the state keeps is kept by every
command. The primitives are the changes that leave the blocks in agreement; the property of a claim is
checked on them alone, and a command is taken apart into them once, here. -/

namespace Sys2Proof.Machine

/-! ### A command's code is taken before or after what the command does -/

theorem setEngine_beginCommand (v : EngineState) (c : MntCommand) (s : State) :
    setEngine v (beginCommand c s) = beginCommand c (setEngine v s) := rfl

theorem startMigration_beginCommand (b : Bank) (l : LogicalRow) (c : MntCommand) (s : State) :
    startMigration b l (beginCommand c s) = beginCommand c (startMigration b l s) := by
  have latched (t : State) :
      noteExhausted b (beginCommand c t) = beginCommand c (noteExhausted b t) := by
    simp only [noteExhausted, beginCommand_remap]; split <;> rfl
  simp only [startMigration, beginCommand_remap]
  split
  · exact latched (setEngine _ ((s.setRemap b _).setFrt _))
  · rfl

theorem applyAbort_beginCommand (b : Bank) (l : LogicalRow) (c : MntCommand) (s : State) :
    applyAbort b l (beginCommand c s) = beginCommand c (applyAbort b l s) := by
  simp only [applyAbort, beginCommand_remap]; split <;> rfl

theorem park_beginCommand (c : MntCommand) (s : State) :
    park (beginCommand c s) = beginCommand c (park s) := by
  simp only [park, beginCommand_frame]; split <;> rfl

theorem unpark_beginCommand (c : MntCommand) (s : State) :
    unpark (beginCommand c s) = beginCommand c (unpark s) := by
  simp only [unpark, beginCommand_frame]; split <;> rfl

theorem withdrawStep_beginCommand (c : MntCommand) (s : State) :
    withdrawStep (beginCommand c s) = beginCommand c (withdrawStep s) := by
  simp only [withdrawStep, beginCommand_frame]; split <;> rfl

theorem restartCursor_beginCommand (c : MntCommand) (s : State) :
    restartCursor (beginCommand c s) = beginCommand c (restartCursor s) := by
  simp only [restartCursor, beginCommand_frame]; split <;> rfl

theorem setHold_beginCommand (v : Bool) (c : MntCommand) (s : State) :
    setHold v (beginCommand c s) = beginCommand c (setHold v s) := rfl

@[simp] theorem beginCommand_hold (c : MntCommand) (s : State) : (beginCommand c s).mnt.hold = s.mnt.hold := rfl

@[simp] theorem beginCommand_arg (c : MntCommand) (s : State) : (beginCommand c s).mnt.arg = s.mnt.arg := rfl

/-! ### The end of an operation, part by part (1.8, R34) -/

/-- What the end of an operation does before it hands anything on: its line effects with the count of its
reads, and for REFRESH the lowered debt (1.8). -/
def Operation.effect (op : Operation) (b : Bank) (struck : List BitPos) (s : State) : State :=
  match op with
  | .readLine q rows _ => repairLine b rows q.line (s.readResult b rows.source q.line) s.countRead
  | .writeLine q rows _ words => s.writeDataRows b rows q.line words
  | .mergeLine q rows _ mask words =>
    mergeLineEffect b rows q.line mask words (s.readResult b rows.source q.line) s.countRead
  | .scrubLine rows n _ => repairLine b rows n (s.readResult b rows.source n) s.countRead
  | .copyLine _ source target n =>
    ((copyLineEffect b source target n (s.readResult b source n) s.countRead).strike b target.physical n
      struck).countRead
  | .clearLine row n => s.writeData b row n .zero
  | .refresh => s.setBank b { s.bank b with debt := lowerDebt (s.bank b).debt }

/-- The result of the verify read of a copy from `source` to `target` (R18). -/
def copyVerified (b : Bank) (source : PhysRow) (target : SpareIdx) (n : LineNo) (struck : List BitPos)
    (s : State) : Bool :=
  let r := s.readResult b source n
  let v := (copyLineEffect b source target n r s.countRead).strike b target.physical n struck
  decide ((v.readResult b target.physical n).outcome = expectedVerify r.outcome)

/-- What the requester of an operation that ends from `s` does with its result (R34). -/
def Operation.result (op : Operation) (b : Bank) (struck : List BitPos) (s : State) : State → State :=
  match op with
  | .readLine q rows f =>
    let r := s.readResult b rows.source q.line
    completeRequest q (readOutcome r.outcome) f (some r.words)
  | .writeLine q _ f _ => completeRequest q .ok f none
  | .mergeLine q rows f _ _ =>
    completeRequest q (mergeOutcome (s.readResult b rows.source q.line).outcome) f none
  | .scrubLine _ _ _ => stepEnds
  | .copyLine _ source target n => copyEnds n (copyVerified b source target n struck s)
  | .clearLine row n => clearLineEnds b ⟨row, n⟩
  | .refresh => id

/-- The notice that an operation that ends from `s` sends (R11). -/
def Operation.noticeFrom (op : Operation) (b : Bank) (s : State) : Option Notice :=
  match op with
  | .readLine q rows _ =>
    noticeOf b rows.source q.row q.line .hostRead (s.readResult b rows.source q.line).outcome
  | .mergeLine q rows _ _ _ =>
    noticeOf b rows.source q.row q.line .hostMerge (s.readResult b rows.source q.line).outcome
  | .scrubLine rows n l => noticeOf b rows.source l n .patrol (s.readResult b rows.source n).outcome
  | .copyLine l source _ n => noticeOf b source l n .copy (s.readResult b source n).outcome
  | .writeLine _ _ _ _ => none
  | .clearLine _ _ => none
  | .refresh => none

/-- The end of an operation, whichever it is. -/
def Operation.ends (op : Operation) (b : Bank) (struck : List BitPos) (d : Disposition) (s : State) : State :=
  endOperation b d (op.result b struck s) (op.noticeFrom b s) (op.effect b struck s)

/-- A bank command ends the operation of its kind that is in progress on its bank. -/
theorem exec_endsBy {b : Bank} {s : State} {op : Operation} {d : Disposition}
    (busy : (s.bank b).phase = .busy op d) (struck : List BitPos) :
    exec (op.endsBy b struck) s = .next (op.ends b struck d s) := by
  cases op <;>
    simp only [Operation.endsBy, exec, execReadLine, execWriteLine, execMergeLine, execScrubLine,
      execCopyLine, execClearLine, execRefresh, busy] <;> rfl

/-- The end of an operation with its result delivered. -/
theorem Operation.ends_deliver (op : Operation) (b : Bank) (struck : List BitPos) (s : State) :
    op.ends b struck .deliver s = sendNotice? (op.noticeFrom b s)
      (settleBank b (op.result b struck s (idleBank b (op.effect b struck s)))) := rfl

theorem Operation.ends_discard (op : Operation) (b : Bank) (struck : List BitPos) (s : State) :
    op.ends b struck .discard s = settleBank b (idleBank b (op.effect b struck s)) := rfl

/-- A command that is the end of an operation on a bank ends the one in progress there, or nothing changes
where that is of another kind (log entry 1). -/
theorem after_operationEnd {c : Instr} {b : Bank} (h : operationEndOf c b) (s : State) :
    after c s = s ∨ ∃ op d struck, (s.bank b).phase = .busy op d ∧ c = op.endsBy b struck ∧
      after c s = op.ends b struck d s := by
  have key : ∀ op d struck, (s.bank b).phase = .busy op d → c = op.endsBy b struck →
      ∃ op d struck, (s.bank b).phase = .busy op d ∧ c = op.endsBy b struck ∧
        after c s = op.ends b struck d s := fun op d struck busy hc =>
    ⟨op, d, struck, busy, hc, (eq_after (hc ▸ exec_endsBy busy struck)).symm⟩
  cases phase : (s.bank b).phase with
  | idle => rcases h with rfl | rfl | rfl | rfl | ⟨_, rfl⟩ | rfl | rfl <;> simp [after, afterEnd, phase]
  | retained => rcases h with rfl | rfl | rfl | rfl | ⟨_, rfl⟩ | rfl | rfl <;> simp [after, afterEnd, phase]
  | busy op d =>
    by_cases kind : ∃ struck, c = op.endsBy b struck
    · obtain ⟨struck, hc⟩ := kind
      exact .inr (phase ▸ key op d struck phase hc)
    · left
      rcases h with rfl | rfl | rfl | rfl | ⟨_, rfl⟩ | rfl | rfl <;> cases op <;>
        simp [Operation.endsBy, after, afterEnd, phase] at kind ⊢

end Sys2Proof.Machine
end

section
/-! The rule: what every primitive change keeps, every command keeps. -/

namespace Sys2Proof.Machine

/-- Some operation's result is being delivered at bank `b`: `op` is in progress with disposition DELIVER. -/
def delivers (s : State) (b : Bank) (op : Operation) : Prop := (s.bank b).phase = .busy op .deliver

/-- PTL's step placed, before the arbiter of its bank chooses (R141). -/
def stepPlaced (p : Position) (s : State) : State :=
  (s.setPtl { s.ptl with cursor := p, step := .waiting p }).setBank p.bank
    { s.bank p.bank with patrolSlot := some ⟨p.row, p.line⟩ }

/-- MIG's copy request placed, before the arbiter of its bank chooses (R105). -/
def copyPlaced (b : Bank) (l : LogicalRow) (s : State) : State :=
  setEngine (.copying b l .waiting) (s.setBank b { s.bank b with migrationSlot := true })

/-- A line of the bank clear placed, before the arbiter of its bank chooses (R176). -/
def clearPlaced (b : Bank) (p : RowLine) (s : State) : State :=
  s.setBank b { s.bank b with clearSlot := some p }

/-- The controller enters retention with ENTER RETENTION running (R180). -/
def entering (s : State) : State :=
  (beginCommand .enterRetention s).setHpt { s.hpt with state := .enteringRetention }

/-- The controller leaves retention with EXIT RETENTION running and the banks IDLE (R182). -/
def leaving (s : State) : State :=
  ((beginCommand .exitRetention s).setHpt { s.hpt with state := .leavingRetention }).mapBanks leaveRetained

/-- Retention exit completed, before a parked migration resumes (R182). -/
def exited (s : State) : State :=
  completeCommand .done ((s.setHpt { s.hpt with state := .ready }).setRefreshTimer .running)

@[simp] theorem requestPlaced_frame (q : Request) (s : State) :
    (requestPlaced q s).powered = s.powered ∧ (requestPlaced q s).rstAsserted = s.rstAsserted ∧
    (requestPlaced q s).hpt = s.hpt ∧ (requestPlaced q s).buf = s.buf ∧
    (requestPlaced q s).cpl = s.cpl ∧ (requestPlaced q s).refreshTimer = s.refreshTimer ∧
    (requestPlaced q s).rmp = s.rmp ∧ (requestPlaced q s).mig = s.mig ∧
    (requestPlaced q s).frt = s.frt ∧ (requestPlaced q s).ptl = s.ptl ∧
    (requestPlaced q s).rps = s.rps ∧ (requestPlaced q s).mnt = s.mnt ∧
    (requestPlaced q s).evt = s.evt ∧ (requestPlaced q s).uer = s.uer ∧
    (requestPlaced q s).array = s.array ∧ (requestPlaced q s).readData = s.readData ∧
    (requestPlaced q s).lineReads = s.lineReads ∧ (requestPlaced q s).pending = s.pending := by
  unfold requestPlaced; simp

@[simp] theorem stepPlaced_frame (p : Position) (s : State) :
    (stepPlaced p s).powered = s.powered ∧ (stepPlaced p s).rstAsserted = s.rstAsserted ∧
    (stepPlaced p s).hpt = s.hpt ∧ (stepPlaced p s).req = s.req ∧ (stepPlaced p s).buf = s.buf ∧
    (stepPlaced p s).cpl = s.cpl ∧ (stepPlaced p s).refreshTimer = s.refreshTimer ∧
    (stepPlaced p s).rmp = s.rmp ∧ (stepPlaced p s).mig = s.mig ∧ (stepPlaced p s).frt = s.frt ∧
    (stepPlaced p s).rps = s.rps ∧ (stepPlaced p s).mnt = s.mnt ∧ (stepPlaced p s).evt = s.evt ∧
    (stepPlaced p s).uer = s.uer ∧ (stepPlaced p s).array = s.array ∧
    (stepPlaced p s).readData = s.readData ∧ (stepPlaced p s).lineReads = s.lineReads ∧
    (stepPlaced p s).pending = s.pending := by
  unfold stepPlaced; simp

@[simp] theorem copyPlaced_frame (b : Bank) (l : LogicalRow) (s : State) :
    (copyPlaced b l s).powered = s.powered ∧ (copyPlaced b l s).rstAsserted = s.rstAsserted ∧
    (copyPlaced b l s).hpt = s.hpt ∧ (copyPlaced b l s).req = s.req ∧ (copyPlaced b l s).buf = s.buf ∧
    (copyPlaced b l s).cpl = s.cpl ∧ (copyPlaced b l s).refreshTimer = s.refreshTimer ∧
    (copyPlaced b l s).rmp = s.rmp ∧ (copyPlaced b l s).frt = s.frt ∧ (copyPlaced b l s).ptl = s.ptl ∧
    (copyPlaced b l s).rps = s.rps ∧ (copyPlaced b l s).mnt = s.mnt ∧ (copyPlaced b l s).evt = s.evt ∧
    (copyPlaced b l s).uer = s.uer ∧ (copyPlaced b l s).array = s.array ∧
    (copyPlaced b l s).readData = s.readData ∧ (copyPlaced b l s).lineReads = s.lineReads ∧
    (copyPlaced b l s).pending = s.pending := by
  unfold copyPlaced; simp

@[simp] theorem clearPlaced_frame (b : Bank) (p : RowLine) (s : State) :
    (clearPlaced b p s).powered = s.powered ∧ (clearPlaced b p s).rstAsserted = s.rstAsserted ∧
    (clearPlaced b p s).hpt = s.hpt ∧ (clearPlaced b p s).req = s.req ∧
    (clearPlaced b p s).buf = s.buf ∧ (clearPlaced b p s).cpl = s.cpl ∧
    (clearPlaced b p s).refreshTimer = s.refreshTimer ∧ (clearPlaced b p s).rmp = s.rmp ∧
    (clearPlaced b p s).mig = s.mig ∧ (clearPlaced b p s).frt = s.frt ∧
    (clearPlaced b p s).ptl = s.ptl ∧ (clearPlaced b p s).rps = s.rps ∧
    (clearPlaced b p s).mnt = s.mnt ∧ (clearPlaced b p s).evt = s.evt ∧
    (clearPlaced b p s).uer = s.uer ∧ (clearPlaced b p s).array = s.array ∧
    (clearPlaced b p s).readData = s.readData ∧ (clearPlaced b p s).lineReads = s.lineReads ∧
    (clearPlaced b p s).pending = s.pending := by
  unfold clearPlaced; simp

@[simp] theorem entering_frame (s : State) :
    (entering s).powered = s.powered ∧ (entering s).rstAsserted = s.rstAsserted ∧
    (entering s).req = s.req ∧ (entering s).buf = s.buf ∧ (entering s).cpl = s.cpl ∧
    (entering s).banks = s.banks ∧ (entering s).refreshTimer = s.refreshTimer ∧
    (entering s).rmp = s.rmp ∧ (entering s).mig = s.mig ∧ (entering s).frt = s.frt ∧
    (entering s).ptl = s.ptl ∧ (entering s).rps = s.rps ∧ (entering s).evt = s.evt ∧
    (entering s).uer = s.uer ∧ (entering s).array = s.array ∧ (entering s).readData = s.readData ∧
    (entering s).lineReads = s.lineReads ∧ (entering s).pending = s.pending := by
  unfold entering; simp

@[simp] theorem leaving_frame (s : State) :
    (leaving s).powered = s.powered ∧ (leaving s).rstAsserted = s.rstAsserted ∧
    (leaving s).req = s.req ∧ (leaving s).buf = s.buf ∧ (leaving s).cpl = s.cpl ∧
    (leaving s).refreshTimer = s.refreshTimer ∧ (leaving s).rmp = s.rmp ∧ (leaving s).mig = s.mig ∧
    (leaving s).frt = s.frt ∧ (leaving s).ptl = s.ptl ∧ (leaving s).rps = s.rps ∧
    (leaving s).evt = s.evt ∧ (leaving s).uer = s.uer ∧ (leaving s).array = s.array ∧
    (leaving s).readData = s.readData ∧ (leaving s).lineReads = s.lineReads ∧
    (leaving s).pending = s.pending := by
  unfold leaving; simp

@[simp] theorem exited_frame (s : State) :
    (exited s).powered = s.powered ∧ (exited s).rstAsserted = s.rstAsserted ∧ (exited s).req = s.req ∧
    (exited s).buf = s.buf ∧ (exited s).cpl = s.cpl ∧ (exited s).banks = s.banks ∧
    (exited s).rmp = s.rmp ∧ (exited s).mig = s.mig ∧ (exited s).frt = s.frt ∧ (exited s).ptl = s.ptl ∧
    (exited s).rps = s.rps ∧ (exited s).uer = s.uer ∧ (exited s).array = s.array ∧
    (exited s).readData = s.readData ∧ (exited s).lineReads = s.lineReads ∧
    (exited s).pending = s.pending := by
  unfold exited; simp

/-- A property of states that the primitive changes keep: each hypothesis of a field is what the model has
checked where it makes that change. Power, warm reset, acknowledge, bit changes and the line effects of the
operations stand apart, since claims differ on them. -/
structure Kept (P : State → Prop) : Prop where
  -- the RST input, start and restart (9.4)
  rstLevel : ∀ s v, P s → P { s with rstAsserted := v }
  beginStart : ∀ s, inStart s.hpt.state = true → P s → P (beginStart s)
  restarting : ∀ s, s.hpt.state = .heldInReset → P s → P (s.setHpt { s.hpt with state := .restarting })
  loaded : ∀ s, s.hpt.state = .starting .loading → P s →
    P ((loadStore s).setHpt { s.hpt with state := .starting .arrayInit })
  started : ∀ s, s.hpt.state = .starting .arrayInit → P s → P ((becomeReady s).setRefreshTimer .running)
  restarted : ∀ s, s.hpt.state = .restarting → P s → P (becomeReady s)
  -- the arbiter (2.4)
  charge : ∀ s, P s → P (s.mapBanks chargeRefresh)
  grantHost : ∀ s b q, (s.bank b).phase = .idle → (s.bank b).hostSlot = some q → P s → P (grantHost b q s)
  grantCopy : ∀ s b, (s.bank b).phase = .idle → (s.bank b).migrationSlot = true → P s → P (grantCopy b s)
  grantStep : ∀ s b p, (s.bank b).phase = .idle → (s.bank b).patrolSlot = some p → P s → P (grantStep b p s)
  grantClear : ∀ s b p, (s.bank b).phase = .idle → (s.bank b).clearSlot = some p → P s → P (grantClear b p s)
  grantRefresh : ∀ s b, (s.bank b).phase = .idle → P s → P (grantRefresh b s)
  discardStep : ∀ s b p, (s.bank b).phase = .idle → (s.bank b).patrolSlot = some p → P s →
    P (discardStep b s)
  retainBank : ∀ s b, mayRetain b s = true → P s → P (retainBank b s)
  -- the ends of operations (2.5, 1.8)
  idled : ∀ s b op, (s.bank b).phase = .busy op .discard → P s → P (idleBank b s)
  refreshEnds : ∀ s b, delivers s b .refresh → P s → P (idleBank b s)
  requestEnds : ∀ s b op q o f w, delivers s b op → op.request? = some q → P s →
    P (completeRequest q o f w (idleBank b s))
  stepEnds : ∀ s b rows n l, delivers s b (.scrubLine rows n l) → P s → P (stepEnds (idleBank b s))
  copyEnds : ∀ s b l p x n v, delivers s b (.copyLine l p x n) → P s → P (copyEnds n v (idleBank b s))
  clearLineEnds : ∀ s b row n, delivers s b (.clearLine row n) → P s →
    P (clearLineEnds b ⟨row, n⟩ (idleBank b s))
  receiveNotice : ∀ n s, P s → P (receiveNotice n s)
  receiveReport : ∀ r s, P s → P (receiveReport r s)
  -- dispatch and placements (4.1, 6.3, 8.3, 10.3)
  answered : ∀ s h, h ∈ s.req.held → eligible s h = true → P s →
    P (completeRequest h.request .notFormatted false none s)
  requestPlaced : ∀ s h, h ∈ s.req.held → eligible s h = true → P s → P (requestPlaced h.request s)
  copyPlaced : ∀ s b l, s.mig.state = .copying b l .absent → P s → P (copyPlaced b l s)
  clearPlaced : ∀ s b p, clearPlacement? s = some (b, p) → P s → P (clearPlaced b p s)
  passEnd : ∀ s, s.ptl.step = .none → P s → P (passEnd s)
  stepPlaced : ∀ s p, s.ptl.step = .none → P s → P (stepPlaced p s)
  -- migration (6.2, 6.4)
  startOn : ∀ s b l x, inStart s.hpt.state = false → s.mig.state = .idle →
    (s.remap b).lowestFree? = some x → P s → P (startOn b l x s)
  park : ∀ s, P s → P (park s)
  unpark : ∀ s, P s → P (unpark s)
  -- the repair store (9.2)
  burnPasses : ∀ s u, s.rps.burn = some u → P s → P (burnPasses u s)
  burnFails : ∀ s u, s.rps.burn = some u → P s → P (burnFails u s)
  nextAttempt : ∀ s u i, s.rps.burn = some u → s.rps.lowestBlank? = some i → P s →
    P (s.setRps (s.rps.beginAttempt { u with attempt := u.attempt + 1, slot := i }))
  -- the command unit (10.1)
  busy : ∀ s, P s → P (s.latch .maintRefusedBusy)
  completed : ∀ s c r, s.mnt.running = none → P s → P (completeCommand r (beginCommand c s))
  clearBegun : ∀ s, s.mnt.running = none → s.hpt.state = .ready →
    (s.remap s.mnt.arg.bank).pending? = none → P s →
    P (beginClear s.mnt.arg.bank (beginCommand .clearBank s))
  abortAtRest : ∀ s b l, s.mig.state = .parked b l ∨ s.mig.state = .copying b l .absent → P s →
    P (applyAbort b l s)
  abortWaiting : ∀ s b l, s.mig.state = .copying b l .waiting → P s →
    P (applyAbort b l (withdrawCopy b s))
  abortBegun : ∀ s b l k a, s.mnt.running = none → s.mig.state = .copying b l (.running k a) → P s →
    P (setEngine (.copying b l (.running k true)) (beginCommand .abortMigration s))
  burnBegun : ∀ s b l x i, s.mnt.running = none → s.rps.lowestBlank? = some i → P s →
    P ((beginCommand .burnRow s).setRps (s.rps.beginAttempt ⟨b, l, x, 1, i⟩))
  setHold : ∀ s v, P s → P (setHold v s)
  withdrawStep : ∀ s, P s → P (withdrawStep s)
  restartCursor : ∀ s, P s → P (restartCursor s)
  entering : ∀ s, s.mnt.running = none → s.hpt.state = .ready → P s → P (entering s)
  leaving : ∀ s, s.mnt.running = none → inRetention s.hpt.state = true → P s → P (leaving s)
  exited : ∀ s, s.hpt.state = .leavingRetention → P s → P (exited s)
  recordDropped : ∀ s i r, s.frt.slot i = some r → r.state ≠ .migrating → P s →
    P (s.setFrt (s.frt.removeSlot i))
  -- the register window (3.2 to 3.4, Chapter 11)
  readZero : ∀ s, P s → P (s.setReadData 0)
  storeConfig : ∀ s w, P s → P (storeConfig w s)
  storeInterval : ∀ s w, P s → P (storeInterval w s)
  storeMask : ∀ s w, P s → P (storeMask w s)
  storeLatch : ∀ s w, P s → P (storeLatch w s)
  storeBufSelect : ∀ s w, P s → P (storeBufSelect w s)
  storeArg : ∀ s w, P s → P (storeArg w s)
  storeFrtSelect : ∀ s w, P s → P (storeFrtSelect w s)
  storeRmpSelect : ∀ s w, P s → P (storeRmpSelect w s)
  storeRpsSelect : ∀ s w, P s → P (storeRpsSelect w s)
  accepted : ∀ s w q, checkSubmit s w = .ok q → P s → P (acceptRequest q s)
  rejected : ∀ s r, P s → P (rejectRequest r s)
  popCompletion : ∀ s, P s → P (popCompletion s)
  popReport : ∀ s, P s → P (popReport s)
  readBufData : ∀ s, P s → P (readBufData s)
  writeBufData : ∀ s w, P s → P (writeBufData w s)
  readEntryA : ∀ s, P s → P (readEntryA s)

/-- A window write keeps a property that its effect keeps: a closed window leaves the state (R165). -/
theorem State.onWrite_keeps {P : State → Prop} {s : State} {effect : State → State} (hs : P s)
    (h : P (effect s)) : P (s.onWrite effect) := by
  unfold State.onWrite
  split
  · exact h
  · exact hs

/-! ### The arbiter, the settling of a bank and the ends of operations -/

namespace Kept

variable {P : State → Prop} (k : Kept P)
include k

theorem grant {s : State} {b : Bank} {c : Claim} (idle : (s.bank b).phase = .idle)
    (chosen : (s.bank b).choice s.hpt.state = some c) (hs : P s) : P (grant b c s) := by
  have waits := (BankSection.of_choice chosen).1
  cases c with
  | urgentRefresh => exact k.grantRefresh s b idle hs
  | refresh => exact k.grantRefresh s b idle hs
  | clear =>
    obtain ⟨p, slot⟩ := Option.isSome_iff_exists.mp waits
    simpa [Machine.grant, slot] using k.grantClear s b p idle slot hs
  | host =>
    obtain ⟨q, slot⟩ := Option.isSome_iff_exists.mp waits
    simpa [Machine.grant, slot] using k.grantHost s b q idle slot hs
  | migration => exact k.grantCopy s b idle waits hs
  | patrol =>
    obtain ⟨p, slot⟩ := Option.isSome_iff_exists.mp waits
    simpa [Machine.grant, slot] using k.grantStep s b p idle slot hs

theorem serve {s : State} {b : Bank} (idle : (s.bank b).phase = .idle) (hs : P s) : P (serve b s) := by
  unfold Machine.serve
  split
  · exact k.grant idle (by assumption) hs
  · exact hs

theorem arbitrate {s : State} (b : Bank) (hs : P s) : P (arbitrate b s) := by
  unfold Machine.arbitrate
  split
  · rename_i idle
    split
    · rename_i stale
      simp only [staleChosen, Bool.and_eq_true, beq_iff_eq] at stale
      obtain ⟨p, slot⟩ := Option.isSome_iff_exists.mp (BankSection.of_choice stale.1).1
      exact k.serve (by simpa using idle) (k.discardStep s b p idle slot hs)
    · exact k.serve idle hs
  · exact hs

theorem settleBank {s : State} (b : Bank) (hs : P s) : P (settleBank b s) := by
  unfold Machine.settleBank
  split
  · exact k.retainBank s b (by assumption) hs
  · exact k.arbitrate b hs

theorem sendNotice? {s : State} (n : Option Notice) (hs : P s) : P (sendNotice? n s) := by
  cases n with
  | none => exact hs
  | some n =>
    unfold Machine.sendNotice? Machine.sendNotice
    dsimp only
    split
    · exact k.receiveReport _ _ (k.receiveNotice n s hs)
    · exact k.receiveNotice n s hs

/-- The end of an operation whose line effects and reads have been made. -/
theorem endOperation {s : State} {b : Bank} {op : Operation} {d : Disposition} (v : State)
    (struck : List BitPos) (n : Option Notice) (phase : (s.bank b).phase = .busy op d) (hs : P s) :
    P (endOperation b d (op.result b struck v) n s) := by
  cases d with
  | discard => exact k.settleBank b (k.idled s b op phase hs)
  | deliver =>
    refine k.sendNotice? n (k.settleBank b ?_)
    cases op with
    | readLine q rows f => exact k.requestEnds s b _ q _ f _ phase rfl hs
    | writeLine q rows f w => exact k.requestEnds s b _ q _ f _ phase rfl hs
    | mergeLine q rows f m w => exact k.requestEnds s b _ q _ f _ phase rfl hs
    | scrubLine rows n l => exact k.stepEnds s b rows n l phase hs
    | copyLine l p x n => exact k.copyEnds s b l p x n _ phase hs
    | clearLine row n => exact k.clearLineEnds s b row n phase hs
    | refresh => exact k.refreshEnds s b phase hs

/-! ### Happenings of the controller -/

theorem refreshExpiry {s : State} (hs : P s) : P (refreshExpiry s) :=
  List.foldlRecOn allBanks _ (k.charge s hs) fun _ ht b _ => k.arbitrate b ht

theorem placeStep {s : State} (p : Position) (step : s.ptl.step = .none) (hs : P s) : P (placeStep p s) :=
  k.arbitrate p.bank (k.stepPlaced s p step hs)

theorem issueStep {s : State} (due : stepDue s = true) (hs : P s) : P (issueStep s) := by
  have step : s.ptl.step = .none := by
    simp only [stepDue, Bool.and_eq_true, beq_iff_eq] at due
    exact due.1.1.1.2
  unfold Machine.issueStep
  split
  · exact k.placeStep _ step hs
  · split
    · exact k.placeStep _ (by simpa [Machine.passEnd] using step) (k.passEnd s step hs)
    · exact k.passEnd s step hs

theorem dispatch {s : State} {h : HeldRequest} (oldest : oldestEligible? s = some h) (hs : P s) :
    P (dispatchRequest h.request s) := by
  have member := List.mem_of_find?_eq_some oldest
  have takes := List.find?_some oldest
  by_cases usable : (s.bank h.request.bank).condition = .unformatted
  · rw [dispatchRequest_of_unformatted usable]
    exact k.answered s h member takes hs
  · rw [dispatchRequest_of_not_unformatted usable]
    exact k.arbitrate _ (k.requestPlaced s h member takes hs)

theorem startMigration {s : State} (b : Bank) (l : LogicalRow) (running : inStart s.hpt.state = false)
    (rest : s.mig.state = .idle) (hs : P s) : P (startMigration b l s) := by
  unfold Machine.startMigration
  split
  · exact k.startOn s b l _ running rest (by assumption) hs
  · exact hs

theorem autoSelect {s : State} (hs : P s) : P (autoSelect s) := by
  unfold Machine.autoSelect
  split
  · rename_i due
    simp only [selectionDue, Bool.and_eq_true, beq_iff_eq] at due
    obtain ⟨⟨⟨-, rest⟩, -⟩, ready⟩ := due
    split
    · exact k.startMigration _ _ (by simp [ready, inStart]) rest hs
    · exact hs
  · exact hs

theorem attemptEnds {s : State} (passed : Bool) (hs : P s) : P (attemptEnds passed s) := by
  unfold Machine.attemptEnds
  split
  · rename_i u burn
    split
    · exact k.burnPasses s u burn hs
    · unfold Machine.attemptFails
      split
      · split
        · exact k.nextAttempt s u _ burn (by assumption) hs
        · exact k.burnFails s u burn hs
      · exact k.burnFails s u burn hs
  · exact hs

theorem finishExit {s : State} (left : s.hpt.state = .leavingRetention) (hs : P s) : P (finishExit s) := by
  unfold Machine.finishExit
  dsimp only
  split
  · exact k.exited s left hs
  · exact k.unpark _ (k.exited s left hs)

/-! ### Maintenance commands -/

theorem migrateRowBody {s : State} (open' : inStart s.hpt.state = false) (rest : s.mnt.running = none)
    (hs : P s) : P (migrateRowBody s.mnt.arg (beginCommand .migrateRow s)) := by
  have refused (r : MntResult) := k.completed s .migrateRow r rest hs
  unfold Machine.migrateRowBody
  split
  · exact refused _
  · split
    · exact refused _
    · split
      · exact refused _
      · rename_i engine
        simp only [beginCommand_frame, ne_eq, not_not] at engine
        split
        · exact refused _
        · split
          · exact refused _
          · rw [startMigration_beginCommand]
            exact k.completed _ _ _ (by simpa using rest) (k.startMigration _ _ open' engine hs)

theorem abortMigrationBody {s : State} (rest : s.mnt.running = none) (hs : P s) :
    P (abortMigrationBody s.mnt.arg (beginCommand .abortMigration s)) := by
  have atOnce {b : Bank} {l : LogicalRow} {t : State} (h : P (applyAbort b l t)) (ht : t.mnt = s.mnt) :
      P (completeCommand .done (applyAbort b l (beginCommand .abortMigration t))) := by
    rw [applyAbort_beginCommand]
    exact k.completed _ _ _ (by simpa [ht] using rest) h
  unfold Machine.abortMigrationBody
  simp only [beginCommand_frame]
  split
  · exact k.completed s _ _ rest hs
  · exact atOnce (k.abortAtRest s _ _ (.inl (by assumption)) hs) rfl
  · exact atOnce (k.abortAtRest s _ _ (.inr (by assumption)) hs) rfl
  · exact atOnce (k.abortWaiting s _ _ (by assumption) hs) rfl
  · exact k.abortBegun s _ _ _ _ rest (by assumption) hs

theorem burnRowBody {s : State} (rest : s.mnt.running = none) (hs : P s) :
    P (burnRowBody s.mnt.arg (beginCommand .burnRow s)) := by
  have refused (r : MntResult) := k.completed s .burnRow r rest hs
  unfold Machine.burnRowBody
  split
  · exact refused _
  · split
    · exact refused _
    · split
      · exact refused _
      · split
        · exact refused _
        · unfold Machine.beginBurn
          simp only [beginCommand_frame]
          split
          · exact refused _
          · exact k.burnBegun s _ _ _ _ rest (by assumption) hs

theorem holdBody {s : State} (rest : s.mnt.running = none) (hs : P s) :
    P (holdBody s.mnt.arg (beginCommand .hold s)) := by
  unfold Machine.holdBody
  simp only [beginCommand_hold, beginCommand_frame, setHold_beginCommand, park_beginCommand,
    withdrawStep_beginCommand]
  split
  · exact k.completed s _ _ rest hs
  · split
    · exact k.completed _ _ _ (by simpa [Machine.setHold] using rest)
        (k.withdrawStep _ (k.park _ (k.setHold s true hs)))
    · exact k.completed _ _ _ (by simpa [Machine.setHold] using rest) (k.setHold s true hs)

theorem releaseBody {s : State} (rest : s.mnt.running = none) (hs : P s) :
    P (releaseBody s.mnt.arg (beginCommand .release s)) := by
  unfold Machine.releaseBody
  simp only [beginCommand_hold, beginCommand_frame, setHold_beginCommand, unpark_beginCommand]
  split
  · split
    · exact k.completed _ _ _ (by simpa [Machine.setHold] using rest) (k.unpark _ (k.setHold s false hs))
    · exact k.completed _ _ _ (by simpa [Machine.setHold] using rest) (k.setHold s false hs)
  · exact k.completed s _ _ rest hs

theorem retainIdleBanks {s : State} (hs : P s) : P (retainIdleBanks s) := by
  refine List.foldlRecOn allBanks _ hs fun t ht b _ => ?_
  split
  · exact k.retainBank t b (by assumption) ht
  · exact ht

theorem enterRetentionBody {s : State} (ready : inRetention s.hpt.state = false → s.hpt.state = .ready)
    (rest : s.mnt.running = none) (hs : P s) :
    P (enterRetentionBody s.mnt.arg (beginCommand .enterRetention s)) := by
  unfold Machine.enterRetentionBody
  split
  · exact k.completed s _ _ rest hs
  · rename_i out
    have begun := k.entering s rest (ready (by simpa using out)) hs
    refine k.retainIdleBanks (k.withdrawStep _ ?_)
    split
    · exact begun
    · exact k.park _ begun

theorem exitRetentionBody {s : State} (rest : s.mnt.running = none) (hs : P s) :
    P (exitRetentionBody s.mnt.arg (beginCommand .exitRetention s)) := by
  unfold Machine.exitRetentionBody
  split
  · exact k.leaving s rest (by assumption) hs
  · exact k.completed s _ _ rest hs

theorem dropRecordBody {s : State} (rest : s.mnt.running = none) (hs : P s) :
    P (dropRecordBody s.mnt.arg (beginCommand .dropRecord s)) := by
  unfold Machine.dropRecordBody
  split
  · exact k.completed s _ _ rest hs
  · split
    · exact k.completed s _ _ rest hs
    · exact k.completed (s.setFrt (s.frt.removeSlot s.mnt.arg.index)) _ _ rest
        (k.recordDropped s _ _ (by assumption) (by assumption) hs)

theorem clearBankBody {s : State} (ready : inRetention s.hpt.state = false → s.hpt.state = .ready)
    (rest : s.mnt.running = none) (hs : P s) :
    P (clearBankBody s.mnt.arg (beginCommand .clearBank s)) := by
  unfold Machine.clearBankBody
  split
  · exact k.completed s _ _ rest hs
  · rename_i out
    split
    · exact k.completed s _ _ rest hs
    · rename_i free
      exact k.clearBegun s rest (ready (by simpa using out)) (by simpa using free) hs

/-- A maintenance command keeps the property, whichever it is and whatever comes of it. -/
theorem takeCommand {s : State} (c : MntCommand) (hs : P s) : P (takeCommand c (commandBody c) s) := by
  unfold Machine.takeCommand State.onWrite
  split
  · rename_i isOpen
    have running : inStart s.hpt.state = false := by
      revert isOpen
      cases h : s.hpt.state <;> simp [State.windowOpen, h, inStart]
    have ready : inRetention s.hpt.state = false → s.hpt.state = .ready := by
      revert isOpen
      cases h : s.hpt.state <;> simp [State.windowOpen, h, inRetention]
    dsimp only
    split
    · rename_i rest
      cases c with
      | clearBank => exact k.clearBankBody ready rest hs
      | migrateRow => exact k.migrateRowBody running rest hs
      | abortMigration => exact k.abortMigrationBody rest hs
      | burnRow => exact k.burnRowBody rest hs
      | hold => exact k.holdBody rest hs
      | release => exact k.releaseBody rest hs
      | enterRetention => exact k.enterRetentionBody ready rest hs
      | exitRetention => exact k.exitRetentionBody rest hs
      | dropRecord => exact k.dropRecordBody rest hs
      | restartPatrol =>
        show P (completeCommand .done (Machine.restartCursor _))
        rw [restartCursor_beginCommand]
        exact k.completed _ _ _ (by unfold Machine.restartCursor; split <;> simpa using rest)
          (k.restartCursor s hs)
      | unknown code => exact k.completed s _ _ rest hs
    · exact k.busy s hs
  · exact hs

/-! ### Window accesses -/

theorem onRead {s : State} {effect : State → State} (hs : P s) (h : P (effect s)) : P (s.onRead effect) := by
  unfold State.onRead
  split
  · exact h
  · split
    · exact k.readZero s hs
    · exact hs

theorem submitRequest {s : State} (w : Word) (hs : P s) : P (submitRequest w s) := by
  unfold Machine.submitRequest
  split
  · exact k.accepted s w _ (by assumption) hs
  · exact k.rejected s _ hs

theorem plainWrite {s : State} (o : BitVec 8) (w : Word) (hs : P s) : P (plainWrite o w s) := by
  unfold Machine.plainWrite
  split_ifs
  · exact k.storeLatch s w hs
  · exact k.storeBufSelect s w hs
  · exact k.storeArg s w hs
  · exact k.storeFrtSelect s w hs
  · exact k.storeRmpSelect s w hs
  · exact k.storeRpsSelect s w hs
  · exact hs

theorem writeRegister {s : State} (o : BitVec 8) (w : Word) (ack : o = 0x18 → P (acknowledge w s))
    (hs : P s) : P (writeRegister o w s) := by
  unfold Machine.writeRegister
  refine iteInduction (motive := P) (fun _ => k.storeConfig s w hs) fun _ => ?_
  refine iteInduction (motive := P) (fun _ => k.storeInterval s w hs) fun _ => ?_
  refine iteInduction (motive := P) (fun _ => k.storeMask s w hs) fun _ => ?_
  refine iteInduction (motive := P) ack fun _ => ?_
  refine iteInduction (motive := P) (fun _ => k.submitRequest w hs) fun _ => ?_
  refine iteInduction (motive := P) (fun _ => k.popCompletion s hs) fun _ => ?_
  refine iteInduction (motive := P) (fun _ => k.writeBufData s w hs) fun _ => ?_
  refine iteInduction (motive := P) (fun _ => k.takeCommand _ hs) fun _ => ?_
  exact iteInduction (motive := P) (fun _ => k.popReport s hs) fun _ => k.plainWrite o w hs

/-! ### Every command -/

theorem releaseRst {s : State} (hs : P s) : P (releaseRst s) := by
  have released := k.rstLevel s false hs
  unfold Machine.releaseRst
  dsimp only
  split
  · split
    · split
      · rename_i phase held
        exact k.beginStart _ (by simp [held, inStart]) released
      · exact k.restarting _ (by assumption) released
      all_goals exact released
    · exact released
  · exact hs

theorem assertRst {s : State} (reset : P { s with rstAsserted := true } →
    P (warmReset { s with rstAsserted := true })) (hs : P s) : P (assertRst s) := by
  have asserted := k.rstLevel s true hs
  unfold Machine.assertRst
  dsimp only
  split
  · exact hs
  · split
    · split
      · exact k.beginStart _ (by assumption) asserted
      · exact reset asserted
    · exact asserted

theorem endLoading {s : State} (hs : P s) : P (endLoading s) := by
  unfold Machine.endLoading
  split
  · rename_i h
    simp only [Bool.and_eq_true, beq_iff_eq] at h
    exact k.loaded s h.2 hs
  · exact hs

theorem endArrayInit {s : State} (hs : P s) : P (endArrayInit s) := by
  unfold Machine.endArrayInit
  split
  · rename_i h
    simp only [Bool.and_eq_true, beq_iff_eq] at h
    exact k.started s h.2 hs
  · exact hs

theorem endRestarting {s : State} (hs : P s) : P (endRestarting s) := by
  unfold Machine.endRestarting
  split
  · rename_i h
    simp only [Bool.and_eq_true, beq_iff_eq] at h
    exact k.restarted s h.2 hs
  · exact hs

/-- What the commands outside the structure must do for the property to be kept by a command `c` from `s`. -/
structure Apart (P : State → Prop) (c : Instr) (s : State) : Prop where
  powerOn : c = .powerOn → P (applyPower s)
  powerLoss : c = .powerLoss → P (losePower s)
  rstAssert : c = .rstAssert → P { s with rstAsserted := true } → P (warmReset { s with rstAsserted := true })
  bitChange : ∀ b r n p, c = .bitChange b r n p → P (s.strike b r n [p])
  ack : ∀ w, c = .evtAck w ∨ c = .registerWrite 0x18 w → P (acknowledge w s)
  effect : ∀ b op struck d, c = op.endsBy b struck → (s.bank b).phase = .busy op d →
    P (op.effect b struck s)

theorem operationEnd {c : Instr} {s : State} {b : Bank} (h : operationEndOf c b) (a : Apart P c s)
    (hs : P s) : P (after c s) := by
  obtain same | ⟨op, d, struck, busy, hc, ended⟩ := after_operationEnd h s
  · rwa [same]
  · rw [ended]
    refine k.endOperation s struck _ ?_ (a.effect b op struck d hc busy)
    cases op <;> simp [Operation.effect, busy]

/-- Every command keeps what every primitive change keeps. -/
theorem after {c : Instr} {s : State} (a : Apart P c s) (hs : P s) : P (after c s) := by
  cases c with
  | powerOn => exact a.powerOn rfl
  | powerLoss => exact a.powerLoss rfl
  | rstAssert => exact k.assertRst (a.rstAssert rfl) hs
  | rstRelease => exact k.releaseRst hs
  | bitChange b r n p => exact a.bitChange b r n p rfl
  | loadingEnd => exact k.endLoading hs
  | arrayInitEnd => exact k.endArrayInit hs
  | restartingEnd => exact k.endRestarting hs
  | refreshTimerExpiry =>
    dsimp only [Machine.after]
    split
    · exact k.refreshExpiry hs
    · exact hs
  | stepTimerExpiry =>
    dsimp only [Machine.after]
    split
    · exact k.issueStep (by assumption) hs
    · exact hs
  | readLine b | writeLine b | mergeLine b | scrubLine b | copyLine b struck | clearLine b | refresh b =>
    exact k.operationEnd (b := b) (by simp [operationEndOf]) a hs
  | dispatch =>
    dsimp only [Machine.after]
    split
    · exact k.dispatch (by assumption) hs
    · exact hs
  | copyRequestPlace =>
    dsimp only [Machine.after]
    split
    · exact k.arbitrate _ (k.copyPlaced s _ _ (by assumption) hs)
    · exact hs
  | autoSelection => exact k.autoSelect hs
  | clearLinePlace =>
    dsimp only [Machine.after]
    split
    · exact k.arbitrate _ (k.clearPlaced s _ _ (by assumption) hs)
    · exact hs
  | burnAttemptEnd passed => exact k.attemptEnds passed hs
  | retentionExitEnd =>
    dsimp only [Machine.after]
    split
    · exact k.finishExit (by assumption) hs
    · exact hs
  | submit w => exact State.onWrite_keeps hs (k.submitRequest w hs)
  | bufDataRead => exact k.onRead hs (k.readBufData s hs)
  | bufDataWrite w => exact State.onWrite_keeps hs (k.writeBufData s w hs)
  | cplPop w => exact State.onWrite_keeps hs (k.popCompletion s hs)
  | uerPop w => exact State.onWrite_keeps hs (k.popReport s hs)
  | frtEntryARead => exact k.onRead hs (k.readEntryA s hs)
  | evtAck w => exact State.onWrite_keeps hs (a.ack w (.inl rfl))
  | evtMask w => exact State.onWrite_keeps hs (k.storeMask s w hs)
  | hptConfig w => exact State.onWrite_keeps hs (k.storeConfig s w hs)
  | ptlInterval w => exact State.onWrite_keeps hs (k.storeInterval s w hs)
  | registerWrite o w => exact State.onWrite_keeps hs (k.writeRegister o w (fun ho => a.ack w (.inr (by rw [ho]))) hs)
  | clearBank => exact k.takeCommand .clearBank hs
  | migrateRow => exact k.takeCommand .migrateRow hs
  | abortMigration => exact k.takeCommand .abortMigration hs
  | burnRow => exact k.takeCommand .burnRow hs
  | hold => exact k.takeCommand .hold hs
  | release => exact k.takeCommand .release hs
  | enterRetention => exact k.takeCommand .enterRetention hs
  | exitRetention => exact k.takeCommand .exitRetention hs
  | dropRecord => exact k.takeCommand .dropRecord hs
  | restartPatrol => exact k.takeCommand .restartPatrol hs
  | badCommand code => exact k.takeCommand _ hs

end Kept

@[simp] theorem State.setPending_frame (s : State) (v : List Instr) :
    (s.setPending v).powered = s.powered ∧ (s.setPending v).rstAsserted = s.rstAsserted ∧
    (s.setPending v).hpt = s.hpt ∧ (s.setPending v).req = s.req ∧ (s.setPending v).buf = s.buf ∧
    (s.setPending v).cpl = s.cpl ∧ (s.setPending v).banks = s.banks ∧
    (s.setPending v).refreshTimer = s.refreshTimer ∧ (s.setPending v).rmp = s.rmp ∧
    (s.setPending v).mig = s.mig ∧ (s.setPending v).frt = s.frt ∧ (s.setPending v).ptl = s.ptl ∧
    (s.setPending v).rps = s.rps ∧ (s.setPending v).mnt = s.mnt ∧ (s.setPending v).evt = s.evt ∧
    (s.setPending v).uer = s.uer ∧ (s.setPending v).array = s.array ∧
    (s.setPending v).readData = s.readData ∧ (s.setPending v).lineReads = s.lineReads := by
  unfold State.setPending; simp

@[simp] theorem State.bank_setPending (s : State) (v : List Instr) (b : Bank) :
    (s.setPending v).bank b = s.bank b := rfl
@[simp] theorem State.remap_setPending (s : State) (v : List Instr) (b : Bank) :
    (s.setPending v).remap b = s.remap b := rfl

/-- An invariant: a property that every primitive change keeps, those that stand apart included. -/
structure KeptByAll (P : State → Prop) : Prop extends Kept P where
  queue : ∀ s v, P s → P (s.setPending v)
  applyPower : ∀ s, s.powered = false → P s → P { powerOnValues s with powered := true }
  losePower : ∀ s, P s → P { powerOnValues s with powered := false }
  warmReset : ∀ s, P s → P (warmReset s)
  acknowledge : ∀ s w, P s → P (acknowledge w s)
  lines : ∀ s t, keepsAllBut [.array, .lineReads] s t → (s.array.wf = true → t.array.wf = true) → P s → P t
  lowered : ∀ s b, (∃ d, (s.bank b).phase = .busy .refresh d) → P s →
    P (s.setBank b { s.bank b with debt := lowerDebt (s.bank b).debt })

/-! ### Line effects (1.8) -/

theorem repairLine_wf (b : Bank) (rows : Rows) (n : LineNo) (r : ReadResult) (s : State)
    (h : s.array.wf = true) : (repairLine b rows n r s).array.wf = true := by
  unfold repairLine
  split
  · exact h
  · exact s.writeData_wf _ _ _ _ h
  · exact s.poisonRows_wf _ _ _ h
  · exact h

theorem mergeLineEffect_wf (b : Bank) (rows : Rows) (n : LineNo) (m : BitVec 8) (w : LineWords)
    (r : ReadResult) (s : State) (h : s.array.wf = true) :
    (mergeLineEffect b rows n m w r s).array.wf = true := by
  unfold mergeLineEffect
  split
  · exact s.writeDataRows_wf _ _ _ _ h
  · exact s.writeDataRows_wf _ _ _ _ h
  · exact s.poisonRows_wf _ _ _ h
  · exact h

theorem copyLineEffect_wf (b : Bank) (p : PhysRow) (x : SpareIdx) (n : LineNo) (r : ReadResult) (s : State)
    (h : s.array.wf = true) : (copyLineEffect b p x n r s).array.wf = true := by
  unfold copyLineEffect
  split
  · exact s.writeData_wf _ _ _ _ h
  · exact s.writeData_wf _ _ _ _ h
  · exact State.writePoison_wf _ _ _ _ (s.writePoison_wf _ _ _ h)
  · exact s.writePoison_wf _ _ _ h

/-- The line effects of an operation keep the canonical form of the array. -/
theorem Operation.effect_wf (op : Operation) (b : Bank) (struck : List BitPos) (s : State)
    (h : s.array.wf = true) : (op.effect b struck s).array.wf = true := by
  have read : s.countRead.array.wf = true := by simpa using h
  cases op with
  | readLine q rows f => exact repairLine_wf _ _ _ _ _ read
  | writeLine q rows f w => exact s.writeDataRows_wf _ _ _ _ h
  | mergeLine q rows f m w => exact mergeLineEffect_wf _ _ _ _ _ _ _ read
  | scrubLine rows n l => exact repairLine_wf _ _ _ _ _ read
  | copyLine l p x n =>
    have struckWf := State.strike_wf _ b x.physical n struck
      (copyLineEffect_wf b p x n (s.readResult b p n) s.countRead read)
    simpa [Operation.effect] using struckWf
  | clearLine row n => exact s.writeData_wf _ _ _ _ h
  | refresh => simpa [Operation.effect] using h

/-- The line effects of an operation other than REFRESH touch lines and the count of reads alone. -/
theorem Operation.effect_keepsAllBut (op : Operation) (b : Bank) (struck : List BitPos) (s : State)
    (h : op ≠ .refresh) : keepsAllBut [.array, .lineReads] s (op.effect b struck s) := by
  cases op <;> simp [Operation.effect, keepsAllBut_iff] at h ⊢

namespace KeptByAll

variable {P : State → Prop} (k : KeptByAll P)
include k

theorem effect {s : State} {b : Bank} {op : Operation} {d : Disposition} (struck : List BitPos)
    (busy : (s.bank b).phase = .busy op d) (hs : P s) : P (op.effect b struck s) := by
  by_cases h : op = .refresh
  · subst h
    exact k.lowered s b ⟨d, busy⟩ hs
  · exact k.lines s _ (op.effect_keepsAllBut b struck s h) (op.effect_wf b struck s) hs

/-- Every command keeps an invariant. -/
theorem after {s : State} (c : Instr) (hs : P s) : P (after c s) :=
  k.toKept.after
    { powerOn := fun _ => by
        unfold Machine.applyPower
        split
        · exact hs
        · rename_i unpowered
          exact k.applyPower s (by simpa using unpowered) hs
      powerLoss := fun _ => by
        unfold Machine.losePower
        split
        · exact k.losePower s hs
        · exact hs
      rstAssert := fun _ => k.warmReset _
      bitChange := fun b r n p _ =>
        k.lines s _ (by simp [keepsAllBut_iff]) (s.strike_wf b r n [p]) hs
      ack := fun w _ => k.acknowledge s w hs
      effect := fun _ _ struck _ _ busy => k.effect struck busy hs } hs

/-- Every step keeps an invariant. -/
theorem step {s t : State} (h : step s = .next t) (hs : P s) : P t := by
  unfold Machine.step at h
  split at h
  · injection h with h
    exact h ▸ hs
  · rw [eq_after h]
    exact k.after _ (k.queue s _ hs)

end KeptByAll

end Sys2Proof.Machine
end

section
/-! The step, the queue of waiting commands and the array: O1, O2, O53, O3, O4, O11. -/

namespace Sys2Proof.Machine

/-- Settles O1: both halves are the two branches of the step. -/
theorem stepRunsTheFrontCommand : Obligations.StepRunsTheFrontCommand :=
  ⟨fun c rest s waiting => by simp [step, waiting], fun s idle => by simp [step, idle]⟩

/-! ### The queue of waiting commands -/

/-- No primitive change touches the queue of waiting commands. -/
theorem kept_pending (q : List Instr) : Kept fun s => s.pending = q := by
  constructor
  all_goals
    intros
    simp_all

@[simp] theorem Operation.effect_pending (op : Operation) (b : Bank) (struck : List BitPos) (s : State) :
    (op.effect b struck s).pending = s.pending := by
  cases op <;> simp [Operation.effect]

theorem after_pending (c : Instr) (s : State) : (after c s).pending = s.pending := by
  refine (kept_pending s.pending).after ?_ rfl
  constructor
  case powerOn => intro; unfold applyPower; split <;> rfl
  case powerLoss => intro; unfold losePower; split <;> rfl
  all_goals
    intros
    simp_all [warmReset]

/-- Settles O2: `exec` answers the state of `after`, which leaves the queue alone. -/
theorem everyCommandAnswersNext : Obligations.EveryCommandAnswersNext := fun c s =>
  ⟨after c s, exec_eq_next c s, after_pending c s⟩

/-! ### The array -/

@[simp] theorem warmReset_array (s : State) : (warmReset s).array = s.array := rfl

@[simp] theorem powerOnValues_array (s : State) : (powerOnValues s).array = [] := rfl

/-- The canonical form of the array is an invariant (1.1). -/
theorem wf_keptByAll : KeptByAll fun s => s.array.wf = true where
  toKept := by
    have kept (s t : State) (same : t.array = s.array) (h : s.array.wf = true) : t.array.wf = true := same ▸ h
    constructor
    all_goals
      intros
      simp_all
  queue _ _ h := h
  applyPower _ _ _ := rfl
  losePower _ _ := rfl
  warmReset _ h := h
  acknowledge _ _ h := by simpa using h
  lines _ _ _ keeps h := keeps h
  lowered _ _ _ h := by simpa using h

/-- Settles O53: the array's canonical form is kept by every primitive change and by every line effect. -/
theorem stepKeepsTheArrayCanonical : Obligations.StepKeepsTheArrayCanonical := fun _ _ canonical stepped =>
  wf_keptByAll.step stepped canonical

/-! ### Which lines an operation's end changes (1.2, 1.6) -/

/-- A line of another bank than `b` is outside everything written at bank `b`. -/
theorem State.cell_writeCell_bank_ne (s : State) {b c : Bank} (h : c ≠ b) (r r' : PhysRow) (n n' : LineNo)
    (v : LineCell) : (s.writeCell b r n v).cell c r' n' = s.cell c r' n' :=
  s.cell_writeCell_other _ _ _ _ _ _ _ fun e => h e.1

theorem State.cell_writeDataRows_bank_ne (s : State) {b c : Bank} (h : c ≠ b) (rows : Rows) (r : PhysRow)
    (n n' : LineNo) (w : LineWords) : (s.writeDataRows b rows n w).cell c r n' = s.cell c r n' := by
  unfold State.writeDataRows State.writeData
  split <;> simp only [State.cell_writeCell_bank_ne _ h]

theorem State.cell_poisonRows_bank_ne (s : State) {b c : Bank} (h : c ≠ b) (rows : Rows) (r : PhysRow)
    (n n' : LineNo) : (s.poisonRows b rows n).cell c r n' = s.cell c r n' := by
  unfold State.poisonRows State.writePoison
  split <;> simp only [State.cell_writeCell_bank_ne _ h]

/-- The line effects of an operation on bank `b` stay in bank `b` (R9). -/
theorem Operation.cell_effect_bank_ne (op : Operation) {b c : Bank} (h : c ≠ b) (struck : List BitPos)
    (s : State) (r : PhysRow) (n : LineNo) : (op.effect b struck s).cell c r n = s.cell c r n := by
  have rows := State.cell_writeDataRows_bank_ne (b := b) (c := c) (h := h)
  have poison := State.cell_poisonRows_bank_ne (b := b) (c := c) (h := h)
  have line := State.cell_writeCell_bank_ne (b := b) (c := c) (h := h)
  cases op with
  | readLine q rows f =>
    simp only [Operation.effect, repairLine]; split <;> simp [poison, State.writeData, line]
  | writeLine q rows' f w => exact rows s _ _ _ _ _
  | mergeLine q rows' f m w =>
    simp only [Operation.effect, mergeLineEffect]; split <;> simp [poison, rows]
  | scrubLine rows n l =>
    simp only [Operation.effect, repairLine]; split <;> simp [poison, State.writeData, line]
  | copyLine l p x n =>
    simp only [Operation.effect, copyLineEffect, State.cell_countRead, State.strike]
    split <;> simp [line, State.writeData, State.writePoison]
  | clearLine row n => exact line s _ _ _ _ _
  | refresh => simp [Operation.effect]

/-- The end of an operation is of one bank alone. -/
theorem Operation.endsBy_operationEndOf (op : Operation) (b : Bank) (struck : List BitPos) :
    operationEndOf (op.endsBy b struck) b := by
  cases op <;> simp [Operation.endsBy, operationEndOf]

/-- A command that leaves every line outside the banks whose operation it ends. -/
theorem after_cell {c : Instr} {s : State} {b : Bank} {r : PhysRow} {n : LineNo}
    (other : ¬operationEndOf c b) (struck : ∀ p, c ≠ .bitChange b r n p) (on : c ≠ .powerOn)
    (loss : c ≠ .powerLoss) : (after c s).cell b r n = s.cell b r n := by
  have kept : Kept fun t => t.cell b r n = s.cell b r n := by
    constructor
    all_goals
      intros
      simp_all [State.cell]
  refine kept.after ?_ rfl
  constructor
  case powerOn => exact fun h => absurd h on
  case powerLoss => exact fun h => absurd h loss
  case bitChange =>
    intro b' r' n' p hc
    refine State.cell_writeCell_other _ _ _ _ _ _ _ _ fun ⟨hb, hr, hn⟩ => struck p ?_
    rw [hc, hb, hr, hn]
  case effect =>
    intro b' op bits d hc _
    refine op.cell_effect_bank_ne ?_ bits s r n
    rintro rfl
    exact other (hc ▸ op.endsBy_operationEndOf b bits)
  all_goals
    intros
    simp_all [State.cell]

/-! ### Which bank sections an operation's end changes (1.6) -/

theorem clearLineEnds_bank_ne (b : Bank) (p : RowLine) (s : State) :
    keepsOtherBanks b s (clearLineEnds b p s) := by
  intro c hc
  unfold clearLineEnds
  split
  · split
    · split
      · rfl
      · simp only [finishClear, completeCommand_bank, State.bank_setMnt]
        exact s.bank_setBank_ne _ hc
    · rfl
  · rfl

theorem Operation.result_bank_ne (op : Operation) (b : Bank) (struck : List BitPos) (v s : State) :
    keepsOtherBanks b s (op.result b struck v s) := by
  intro c hc
  cases op with
  | clearLine row n => exact clearLineEnds_bank_ne b _ s c hc
  | readLine | writeLine | mergeLine | scrubLine | copyLine | refresh => simp [Operation.result]

theorem Operation.effect_bank_ne (op : Operation) (b : Bank) (struck : List BitPos) (s : State) :
    keepsOtherBanks b s (op.effect b struck s) := by
  intro c hc
  cases op with
  | refresh => exact s.bank_setBank_ne _ hc
  | readLine | writeLine | mergeLine | scrubLine | copyLine | clearLine => simp [Operation.effect]

/-- The end of an operation on bank `b` leaves every other bank's section as it stands (R9). -/
theorem Operation.ends_bank_ne (op : Operation) (b : Bank) (struck : List BitPos) (d : Disposition)
    (s : State) : keepsOtherBanks b s (op.ends b struck d s) := by
  intro c hc
  have idled : (idleBank b (op.effect b struck s)).bank c = s.bank c := by
    rw [idleBank_bank_ne b _ c hc, op.effect_bank_ne b struck s c hc]
  cases d with
  | discard => rw [op.ends_discard, settleBank_bank_ne b _ c hc, idled]
  | deliver =>
    rw [op.ends_deliver, sendNotice?_bank, settleBank_bank_ne b _ c hc, op.result_bank_ne b struck s _ c hc,
      idled]

/-- Settles O3: a line changes only by the line effects of its own bank's operation, by its own bit change or
with the power; and everything an operation's end does after them is at its own bank. -/
theorem operationsStayInTheirBank : Obligations.OperationsStayInTheirBank := by
  refine ⟨fun c s t b r n happens changed => ?_, fun c s t b ended happens => ?_⟩
  · rw [eq_after happens] at changed
    by_contra none
    simp only [not_or, not_exists] at none
    exact changed (after_cell none.1 none.2.1 none.2.2.1 none.2.2.2)
  · rw [eq_after happens]
    obtain same | ⟨op, d, struck, -, -, ends⟩ := after_operationEnd ended s
    · rw [same]
      exact fun _ _ => rfl
    · rw [ends]
      exact op.ends_bank_ne b struck d s

/-! ### A poisoned line (1.4, 1.8) -/

/-- A write of a listed line is read back, whatever the form of the array. -/
theorem Memory.read_write_listed (m : Memory) (a : Nat) {c : LineCell} (h : c ≠ .unlisted) :
    Memory.read (Memory.write m a c) a = c := by
  induction m with
  | nil => simp [Memory.write, h, Memory.read]
  | cons e rest ih =>
    obtain ⟨j, d⟩ := e
    simp only [Memory.write, h, if_false]
    split
    · simp [Memory.read]
    · split
      · simp [Memory.read]
      · rename_i below other
        unfold Memory.read
        rw [if_neg (Ne.symm other)]
        exact ih

/-- The line at that place is in form POISON. -/
def poisonedAt (b : Bank) (r : PhysRow) (n : LineNo) (s : State) : Prop := (s.cell b r n).form = .poison

/-- Every write of a line in form POISON leaves a poisoned line poisoned. -/
theorem poisonedAt_writeCell_poison {b b' : Bank} {r r' : PhysRow} {n n' : LineNo} {v : LineCell} {s : State}
    (hv : v.form = .poison) (h : poisonedAt b r n s) : poisonedAt b r n (s.writeCell b' r' n' v) := by
  by_cases at' : b = b' ∧ r = r' ∧ n = n'
  · obtain ⟨rfl, rfl, rfl⟩ := at'
    have listed : v ≠ .unlisted := by
      rintro rfl
      simp [LineCell.unlisted] at hv
    have read : (s.writeCell b r n v).cell b r n = v := Memory.read_write_listed s.array _ listed
    rw [poisonedAt, read, hv]
  · rw [poisonedAt, s.cell_writeCell_other _ _ _ _ _ _ _ at']
    exact h

theorem poisonedAt_poisonRows {b b' : Bank} {r : PhysRow} {n n' : LineNo} {rows : Rows} {s : State}
    (h : poisonedAt b r n s) : poisonedAt b r n (s.poisonRows b' rows n') := by
  unfold State.poisonRows
  split
  · exact poisonedAt_writeCell_poison rfl h
  · exact poisonedAt_writeCell_poison rfl (poisonedAt_writeCell_poison rfl h)

/-- Bits that change leave the form of every line (R3). -/
theorem poisonedAt_strike {b b' : Bank} {r r' : PhysRow} {n n' : LineNo} {bits : List BitPos} {s : State}
    (h : poisonedAt b r n s) : poisonedAt b r n (s.strike b' r' n' bits) := by
  by_cases at' : b = b' ∧ r = r' ∧ n = n'
  · obtain ⟨rfl, rfl, rfl⟩ := at'
    exact poisonedAt_writeCell_poison h h
  · rw [poisonedAt, State.strike, s.cell_writeCell_other _ _ _ _ _ _ _ at']
    exact h

/-- A read of a poisoned line is POISONED or UNCORRECTABLE (R4, Table 1-3). -/
theorem readResult_of_poisonedAt {b : Bank} {r : PhysRow} {n : LineNo} {s : State} (h : poisonedAt b r n s) :
    (s.readResult b r n).outcome = .poisoned ∨ (s.readResult b r n).outcome = .uncorrectable := by
  have form : (s.cell b r n).form = .poison := h
  simp only [State.readResult, readCell, form, readPoisonLine]
  split <;> simp

/-- Neither a read nor a scrub lifts poison: a corrected write-back comes of a line that is not poisoned. -/
theorem poisonedAt_repairLine {b : Bank} {r : PhysRow} {n n' : LineNo} {rows : Rows} {s : State}
    (h : poisonedAt b r n s) :
    poisonedAt b r n (repairLine b rows n' (s.readResult b rows.source n') s.countRead) := by
  have read : poisonedAt b r n s.countRead := h
  unfold repairLine
  split
  · exact read
  · rename_i i corrected
    have elsewhere : ¬(b = b ∧ r = rows.source ∧ n = n') := by
      rintro ⟨-, rfl, rfl⟩
      rcases readResult_of_poisonedAt h with h | h <;> rw [corrected] at h <;> cases h
    rw [poisonedAt, State.writeData, State.cell_writeCell_other _ _ _ _ _ _ _ _ elsewhere]
    exact read
  · exact poisonedAt_poisonRows read
  · exact read

/-- A merge lifts poison only from its target row: its source row is merged only where it reads as data. -/
theorem poisonedAt_mergeLineEffect {b : Bank} {r : PhysRow} {n n' : LineNo} {rows : Rows} {m : BitVec 8}
    {w : LineWords} {s : State} (untargeted : rows.target ≠ some r) (h : poisonedAt b r n s) :
    poisonedAt b r n (mergeLineEffect b rows n' m w (s.readResult b rows.source n') s.countRead) := by
  have read : poisonedAt b r n s.countRead := h
  have merged (words : LineWords) (source : ¬(b = b ∧ r = rows.source ∧ n = n')) :
      poisonedAt b r n (s.countRead.writeDataRows b rows n' words) := by
    unfold State.writeDataRows State.writeData
    split
    · rw [poisonedAt, State.cell_writeCell_other _ _ _ _ _ _ _ _ source]
      exact read
    · rename_i p target
      have row : ¬(b = b ∧ r = p ∧ n = n') := fun e => untargeted (e.2.1 ▸ target)
      rw [poisonedAt, State.cell_writeCell_other _ _ _ _ _ _ _ _ row,
        State.cell_writeCell_other _ _ _ _ _ _ _ _ source]
      exact read
  unfold mergeLineEffect
  split
  · rename_i clean
    refine merged _ ?_
    rintro ⟨-, rfl, rfl⟩
    rcases readResult_of_poisonedAt h with h | h <;> rw [clean] at h <;> cases h
  · rename_i i corrected
    refine merged _ ?_
    rintro ⟨-, rfl, rfl⟩
    rcases readResult_of_poisonedAt h with h | h <;> rw [corrected] at h <;> cases h
  · exact poisonedAt_poisonRows read
  · exact read

theorem poisonedAt_kept (b : Bank) (r : PhysRow) (n : LineNo) : Kept (poisonedAt b r n) := by
  constructor
  all_goals
    intros
    simp_all [poisonedAt, State.cell]

/-- Settles O4: of the changes of lines, those of a read, a scrub and a bit change leave poison, and so does a
merge but in its target row. -/
theorem poisonLeavesOnlyByAWrite : Obligations.PoisonLeavesOnlyByAWrite := by
  intro c s t b r n happens poison lifted
  rw [eq_after happens] at lifted
  by_contra none
  simp only [not_or, not_exists, not_and] at none
  obtain ⟨write, clear, copy, merge, on, loss⟩ := none
  refine lifted ((poisonedAt_kept b r n).after ?_ poison)
  constructor
  case powerOn => exact fun h => absurd h on
  case powerLoss => exact fun h => absurd h loss
  case bitChange => exact fun _ _ _ _ _ => poisonedAt_strike poison
  case effect =>
    intro b' op struck d hc busy
    by_cases same : b = b'
    · subst same
      cases op with
      | readLine q rows f => exact poisonedAt_repairLine poison
      | writeLine q rows f w => exact absurd hc write
      | mergeLine q rows f m w =>
        exact poisonedAt_mergeLineEffect (merge hc q rows f m w d busy) poison
      | scrubLine rows n l => exact poisonedAt_repairLine poison
      | copyLine l p x n => exact absurd hc (copy struck)
      | clearLine row n => exact absurd hc clear
      | refresh => simpa [Operation.effect, poisonedAt] using poison
    · rw [poisonedAt, op.cell_effect_bank_ne same struck s]
      exact poison
  all_goals
    intros
    simp_all [poisonedAt, State.cell]

/-- Settles O11: the changed bit is the line's own write, in a canonical array read back as written. -/
theorem bitChangeAddsOneChangedBit : Obligations.BitChangeAddsOneChangedBit := by
  intro b r n p s canonical
  refine ⟨s.strike b r n [p], rfl, ?_, fun a ha => ?_, by simp [keepsAllBut_iff]⟩
  · exact s.cell_writeCell_same _ _ _ _ canonical
  · exact Memory.read_write_other _ _ _ _ (by simpa using ha)

end Sys2Proof.Machine
end

section
/-! Latched events: O5. -/

namespace Sys2Proof.Machine

/-! ### Latched bits one by one -/

theorem Event.bit_eq_twoPow (e : Event) : e.bit = BitVec.twoPow 32 e.position := rfl

theorem Event.position_lt (e : Event) : 8 ≤ e.position ∧ e.position < 18 := by cases e <;> decide

theorem Event.position_inj {e f : Event} (h : e.position = f.position) : e = f := by
  revert h
  cases e <;> cases f <;> decide

/-- An event is latched exactly when the bit at its position is set (Table 11-1). -/
theorem State.isLatched_eq (s : State) (e : Event) : s.isLatched e = s.evt.latched.getLsbD e.position := by
  have nonzero : BitVec.twoPow 32 e.position ≠ 0#32 := by cases e <;> decide
  rw [State.isLatched, Event.bit_eq_twoPow, BitVec.and_twoPow]
  cases s.evt.latched.getLsbD e.position <;> simp [nonzero]

/-- The latched positions are 8 to 17 (Table 11-4). -/
theorem latchedPositions_getLsbD (i : Nat) : latchedPositions.getLsbD i = decide (8 ≤ i ∧ i < 18) := by
  by_cases h : i < 32
  · revert i
    decide
  · rw [BitVec.getLsbD_of_ge _ _ (by omega)]
    simp
    omega

theorem State.isLatched_congr {s t : State} (h : t.evt = s.evt) (e : Event) :
    t.isLatched e = s.isLatched e := by simp [State.isLatched, h]

/-- A bit already 1 stays 1 when an event latches (R186). -/
theorem State.isLatched_latch {s : State} {e : Event} (h : s.isLatched e = true) (f : Event) :
    (s.latch f).isLatched e = true := by
  rw [State.isLatched_eq] at h ⊢
  show (s.evt.latched ||| f.bit).getLsbD e.position = true
  rw [BitVec.getLsbD_or, h, Bool.true_or]

/-- An acknowledge clears exactly the latched events written as 1 (R187). -/
theorem acknowledge_isLatched (w : Word) (s : State) (e : Event) :
    (acknowledge w s).isLatched e = (s.isLatched e && !w.getLsbD e.position) := by
  have bounds := e.position_lt
  rw [State.isLatched_eq, State.isLatched_eq]
  show (s.evt.latched &&& ~~~(w &&& latchedPositions)).getLsbD e.position = _
  have small : e.position < 32 := by omega
  simp only [BitVec.getLsbD_and, BitVec.getLsbD_not, latchedPositions_getLsbD, small, bounds, and_self,
    decide_true, Bool.and_true, Bool.true_and]

/-! ### What the event unit keeps (R186) -/

section EventUnit

variable {Q : EventUnit → Prop} (latch : ∀ (s : State) (e : Event), Q s.evt → Q (s.latch e).evt)
include latch

theorem completeCommand_evt {s : State} (r : MntResult) (h : Q s.evt) : Q (completeCommand r s).evt :=
  latch (s.setMnt { s.mnt with running := none, lastResult := r }) .maintDone h

theorem noteExhausted_evt {s : State} (b : Bank) (h : Q s.evt) : Q (noteExhausted b s).evt := by
  unfold noteExhausted
  split
  · exact latch s _ h
  · exact h

theorem endMigration_evt {s : State} (v : LastMigration) (h : Q s.evt) : Q (endMigration v s).evt :=
  latch (s.setMig { state := .idle, last := some v }) .migrationEnd h

theorem passEnd_evt {s : State} (h : Q s.evt) : Q (passEnd s).evt := by
  unfold passEnd
  refine latch _ .passEnd ?_
  simpa using h

theorem stepEnds_evt {s : State} (h : Q s.evt) : Q (stepEnds s).evt := by
  have advance (p : Position) : Q (advanceCursor p (forgetStep s)).evt := by
    unfold advanceCursor
    split
    · exact h
    · exact passEnd_evt latch h
  unfold stepEnds
  split
  · exact h
  · exact advance _
  · split
    · exact h
    · exact advance _

theorem failMigration_evt {s : State} (b : Bank) (l : LogicalRow) (e : RemapEntry) (h : Q s.evt) :
    Q (failMigration b l e s).evt :=
  endMigration_evt latch _ h

theorem applyAbort_evt {s : State} (b : Bank) (l : LogicalRow) (h : Q s.evt) :
    Q (applyAbort b l s).evt := by
  unfold applyAbort
  split
  · exact endMigration_evt latch _ h
  · exact h

theorem copyEnds_evt {s : State} (n : LineNo) (v : Bool) (h : Q s.evt) : Q (copyEnds n v s).evt := by
  unfold copyEnds
  split
  · split
    · exact completeCommand_evt latch _ (applyAbort_evt latch _ _ h)
    · split
      · split
        · unfold copied
          split
          · exact h
          · exact endMigration_evt latch _ h
        · unfold verifyFailed
          split
          · split
            · exact noteExhausted_evt latch _ h
            · exact failMigration_evt latch _ _ _ h
          · exact failMigration_evt latch _ _ _ h
      · exact h
  all_goals exact h

theorem clearLineEnds_evt {s : State} (b : Bank) (p : RowLine) (h : Q s.evt) :
    Q (clearLineEnds b p s).evt := by
  unfold clearLineEnds
  split
  · split
    · split
      · exact h
      · exact completeCommand_evt latch _ h
    · exact h
  · exact h

theorem retainBank_evt {s : State} (b : Bank) (h : Q s.evt) : Q (retainBank b s).evt := by
  unfold retainBank
  dsimp only
  split
  · exact completeCommand_evt latch _ h
  · exact h

theorem receiveNotice_evt {s : State} (n : Notice) (h : Q s.evt) : Q (receiveNotice n s).evt := by
  unfold receiveNotice
  split
  · split
    · exact h
    · exact latch s _ h
  · exact h

theorem receiveReport_evt {s : State} (r : Report) (h : Q s.evt) : Q (receiveReport r s).evt := by
  unfold receiveReport
  split
  · exact h
  · exact latch (s.setUer { s.uer with overflow := true }) _ h

theorem burnPasses_evt {s : State} (u : Burn) (h : Q s.evt) : Q (burnPasses u s).evt := by
  unfold burnPasses
  dsimp only
  split
  · exact completeCommand_evt latch _ h
  · exact completeCommand_evt latch _ h

/-- A property of the event unit that every latching and every storing of a mask keeps. -/
theorem kept_evt (mask : ∀ (s : State) (w : Word), Q s.evt → Q (storeMask w s).evt) :
    Kept fun s => Q s.evt := by
  constructor
  case started => exact fun s _ h => latch (s.setHpt { s.hpt with state := .ready }) _ h
  case restarted => exact fun s _ h => latch (s.setHpt { s.hpt with state := .ready }) _ h
  case discardStep => exact fun s b _ _ _ h => stepEnds_evt latch (by simpa using h)
  case retainBank => exact fun s b _ h => retainBank_evt latch b h
  case stepEnds => exact fun s b _ _ _ _ h => stepEnds_evt latch (by simpa using h)
  case copyEnds => exact fun s b _ _ _ n v _ h => copyEnds_evt latch n v (by simpa using h)
  case clearLineEnds => exact fun s b _ _ _ h => clearLineEnds_evt latch _ _ (by simpa using h)
  case receiveNotice => exact fun n s h => receiveNotice_evt latch n h
  case receiveReport => exact fun r s h => receiveReport_evt latch r h
  case passEnd => exact fun s _ h => passEnd_evt latch h
  case startOn => exact fun s b l x _ _ _ h => noteExhausted_evt latch _ h
  case burnPasses => exact fun s u _ h => burnPasses_evt latch u h
  case burnFails => exact fun s u _ h => completeCommand_evt latch _ h
  case busy => exact fun s h => latch s _ h
  case completed => exact fun s c r _ h => completeCommand_evt latch r h
  case abortAtRest => exact fun s b l _ h => applyAbort_evt latch b l h
  case abortWaiting => exact fun s b l _ h => applyAbort_evt latch b l (by simpa using h)
  case exited => exact fun s _ h => completeCommand_evt latch _ h
  case storeMask => exact mask
  case rejected => exact fun s r h => latch (s.setReq _) _ h
  case readBufData =>
    intro s h
    unfold readBufData
    dsimp only
    split
    · exact h
    · exact latch (s.setReadData 0) _ h
  case writeBufData =>
    intro s w h
    unfold writeBufData
    dsimp only
    split
    · exact h
    · exact latch s _ h
  all_goals
    intros
    simp_all

end EventUnit

/-! ### Latched events stay -/

theorem isLatched_kept (e : Event) : Kept fun s => s.isLatched e = true := by
  have rule := kept_evt (Q := fun u => (u.latched &&& e.bit != 0#32) = true)
    (fun s f h => State.isLatched_latch h f) fun _ _ h => h
  exact rule

/-- Settles O5: everything but an acknowledge only latches events; an acknowledge clears the events whose bits
are written as 1. -/
theorem latchedEventStaysUntilAcknowledged : Obligations.LatchedEventStaysUntilAcknowledged := by
  intro c s t e happens latched cleared
  rw [eq_after happens] at cleared
  by_contra none
  simp only [not_or, not_exists, not_and] at none
  obtain ⟨ack, rst, on, loss⟩ := none
  refine Bool.noConfusion (cleared.symm.trans ((isLatched_kept e).after ?_ latched))
  constructor
  case powerOn => exact fun h => absurd h on
  case powerLoss => exact fun h => absurd h loss
  case rstAssert => exact fun h => absurd h rst
  case ack =>
    intro w hc
    rw [acknowledge_isLatched, latched, Bool.true_and]
    simpa using ack w hc
  case bitChange => exact fun _ _ _ _ _ => by simpa [State.isLatched] using latched
  case effect =>
    intro b op struck d _ _
    cases op <;> simpa [Operation.effect, State.isLatched] using latched

end Sys2Proof.Machine
end

section
/-! The invariants of one block alone: events, reports, the patrol cursor, the repair store, the candidate
queue (Chapters 7 to 9, 11). -/

namespace Sys2Proof.Machine

/-! ### The reset values of the blocks -/

@[simp] theorem warmReset_uer (s : State) : (warmReset s).uer = { reports := [], overflow := false } := rfl
@[simp] theorem warmReset_evt (s : State) : (warmReset s).evt = { latched := 0, mask := 0 } := rfl
@[simp] theorem warmReset_ptl (s : State) : (warmReset s).ptl = .initial := rfl
@[simp] theorem warmReset_rps (s : State) : (warmReset s).rps = s.rps.atReset := rfl
@[simp] theorem warmReset_frt (s : State) : (warmReset s).frt = s.frt.atReset := rfl

@[simp] theorem powerOnValues_uer (s : State) :
    (powerOnValues s).uer = { reports := [], overflow := false } := rfl
@[simp] theorem powerOnValues_evt (s : State) : (powerOnValues s).evt = { latched := 0, mask := 0 } := rfl
@[simp] theorem powerOnValues_ptl (s : State) : (powerOnValues s).ptl = .initial := rfl
@[simp] theorem powerOnValues_rps (s : State) :
    (powerOnValues s).rps = { slots := s.rps.slots, burn := none, select := 0 } := rfl
@[simp] theorem powerOnValues_frt (s : State) : (powerOnValues s).frt = State.reset.frt := rfl

/-- A block outside the array and the count of reads is the same after line effects. -/
theorem keepsAllBut_lines {s t : State} (h : keepsAllBut [.array, .lineReads] s t) :
    t.uer = s.uer ∧ t.evt = s.evt ∧ t.ptl = s.ptl ∧ t.rps = s.rps ∧ t.frt = s.frt ∧ t.banks = s.banks ∧
      t.req = s.req ∧ t.buf = s.buf ∧ t.cpl = s.cpl ∧ t.rmp = s.rmp ∧ t.mig = s.mig ∧ t.mnt = s.mnt ∧
      t.hpt = s.hpt ∧ t.refreshTimer = s.refreshTimer :=
  ⟨h .uer (by simp), h .evt (by simp), h .ptl (by simp), h .rps (by simp), h .frt (by simp),
    h .bsq (by simp), h .req (by simp), h .buf (by simp), h .cpl (by simp), h .rmp (by simp),
    h .mig (by simp), h .mnt (by simp), h .hpt (by simp), h .refreshTimer (by simp)⟩

/-! ### Event bits (11.1, 11.2) -/

theorem Event.bit_and_unnamed (e : Event) : e.bit &&& ~~~latchedPositions = 0#32 := by cases e <;> decide

theorem eventInv_keptByAll : KeptByAll EventInv := by
  have kept : Kept EventInv := kept_evt
    (Q := fun u => u.latched &&& ~~~latchedPositions = 0#32 ∧
      u.mask &&& ~~~(latchedPositions ||| levelPositions) = 0#32)
    (fun s e h => ⟨by
      show (s.evt.latched ||| e.bit) &&& _ = _
      rw [BitVec.and_comm, BitVec.and_or_distrib_left, BitVec.and_comm _ s.evt.latched, h.1,
        BitVec.and_comm _ e.bit, e.bit_and_unnamed, BitVec.or_zero], h.2⟩)
    (fun s w h => ⟨h.1, by
      show w &&& _ &&& _ = _
      rw [BitVec.and_assoc, BitVec.and_not_self]; exact BitVec.and_zero⟩)
  apply KeptByAll.mk kept
  case acknowledge =>
    intro s w h
    refine ⟨?_, h.2⟩
    show s.evt.latched &&& ~~~(w &&& latchedPositions) &&& _ = _
    rw [BitVec.and_assoc, BitVec.and_comm (~~~(w &&& _)), ← BitVec.and_assoc, h.1, BitVec.zero_and]
  case lines =>
    intro s t keeps _ h
    simpa [EventInv, (keepsAllBut_lines keeps).2.1] using h
  all_goals
    intros
    simp_all [EventInv]

/-! ### Reports (11.3) -/

theorem ReportInv.of_same {s t : State} (h : ReportInv s) (same : t.uer = s.uer) : ReportInv t := by
  rwa [ReportInv, same]

theorem reportInv_keptByAll : KeptByAll ReportInv := by
  have kept : Kept ReportInv := by
    constructor
    case receiveReport =>
      intro r s ⟨room, flag⟩
      unfold receiveReport
      split
      · exact ⟨by simpa using by omega, fun _ => by simp⟩
      · refine ⟨room, fun _ empty => ?_⟩
        simp_all
    case popReport =>
      intro s ⟨room, flag⟩
      unfold popReport
      split
      · exact ⟨room, flag⟩
      · rename_i r rest full
        rw [full, List.length_cons] at room
        refine ⟨by simpa using by omega, fun flagged => ?_⟩
        simp_all
    all_goals
      intros
      exact ReportInv.of_same ‹_› (by simp)
  apply KeptByAll.mk kept
  case lines =>
    intro s t keeps _ h
    exact h.of_same (keepsAllBut_lines keeps).1
  case applyPower | losePower | warmReset =>
    intros
    simp [ReportInv]
  all_goals
    intros
    exact ReportInv.of_same ‹_› (by simp)

/-! ### The patrol cursor (8.1) -/

/-- With no step outstanding the cursor is free. -/
theorem patrolInv_of_none {s : State} (h : s.ptl.step = .none) : PatrolInv s := by simp [PatrolInv, h]

theorem patrolInv_congr {s t : State} (h : t.ptl = s.ptl) : PatrolInv t ↔ PatrolInv s := by
  simp [PatrolInv, h]

theorem PatrolInv.of_same {s t : State} (h : PatrolInv s) (same : t.ptl = s.ptl) : PatrolInv t :=
  (patrolInv_congr same).mpr h

@[simp] theorem forgetStep_step (s : State) : (forgetStep s).ptl.step = .none := rfl

@[simp] theorem passEnd_step (s : State) : (passEnd s).ptl.step = s.ptl.step := by simp [passEnd]

@[simp] theorem advanceCursor_step (p : Position) (s : State) :
    (advanceCursor p s).ptl.step = s.ptl.step := by
  unfold advanceCursor; split <;> simp

/-- A step that has ended is outstanding no more (R142). -/
@[simp] theorem stepEnds_step (s : State) : (stepEnds s).ptl.step = .none := by
  unfold stepEnds
  split
  · assumption
  · simp
  · split <;> simp

theorem withdrawStep_step_ne_waiting (s : State) (p : Position) : (withdrawStep s).ptl.step ≠ .waiting p := by
  unfold withdrawStep
  split <;> simp_all

@[simp] theorem stepPlaced_ptl (p : Position) (s : State) :
    (stepPlaced p s).ptl = { s.ptl with cursor := p, step := .waiting p } := by simp [stepPlaced]

/-- What a grant of the patrol slot makes of the step: a waiting one is RUNNING unmarked (R142). -/
def PatrolStep.run : PatrolStep → PatrolStep
  | .waiting p => .running p false
  | .none => .none
  | .running p marked => .running p marked

theorem runStep_ptl (s : State) : (runStep s).ptl = { s.ptl with step := s.ptl.step.run } := by
  unfold runStep
  split <;> rename_i h <;> simp [h, PatrolStep.run] <;> simp [← h]

theorem grantStep_ptl (b : Bank) (p : RowLine) (s : State) :
    (grantStep b p s).ptl = { s.ptl with step := s.ptl.step.run } := by simp [grantStep, runStep_ptl]

/-- The withdrawal of a waiting step leaves none outstanding, or a RUNNING one as it stands. -/
theorem withdrawStep_ptl (s : State) : (withdrawStep s).ptl.step = .none ∨ withdrawStep s = s := by
  unfold withdrawStep
  split <;> simp_all

theorem withdrawStepOf_ptl (b : Bank) (s : State) :
    (withdrawStepOf b s).ptl.step = .none ∨ withdrawStepOf b s = s := by
  unfold withdrawStepOf
  split
  · split <;> simp_all
  · simp
  · simp

@[simp] theorem beginClear_ptl (b : Bank) (s : State) : (beginClear b s).ptl = (withdrawStepOf b s).ptl := by
  simp [beginClear]

theorem patrolInv_keptByAll : KeptByAll PatrolInv := by
  have kept : Kept PatrolInv := by
    constructor
    case discardStep | stepEnds => intros; exact patrolInv_of_none (by simp [discardStep])
    case passEnd => intro s none h; exact patrolInv_of_none (by simpa using none)
    case stepPlaced => intros; simp [PatrolInv]
    case grantStep =>
      intro s b p _ _ h
      unfold PatrolInv at h ⊢
      rw [grantStep_ptl]
      cases step : s.ptl.step <;> simp_all [PatrolStep.run]
    case withdrawStep =>
      intro s h
      obtain none | same := withdrawStep_ptl s
      · exact patrolInv_of_none none
      · rwa [same]
    case clearBegun =>
      intro s _ _ _ h
      rw [PatrolInv, beginClear_ptl]
      obtain none | same := withdrawStepOf_ptl s.mnt.arg.bank (beginCommand .clearBank s)
      · simp [none]
      · rw [same]
        simpa [PatrolInv] using h
    case restartCursor =>
      intro s h
      unfold PatrolInv
      rw [restartCursor_ptl]
      cases s.ptl.step <;> simp [PatrolStep.restarted]
    case storeInterval => exact fun s w h => h
    all_goals
      intros
      exact PatrolInv.of_same ‹_› (by simp)
  apply KeptByAll.mk kept
  case lines =>
    intro s t keeps _ h
    simpa [PatrolInv, keepsAllBut_lines keeps] using h
  all_goals
    intros
    simp_all [PatrolInv, Patrol.initial]

/-! ### The repair store (9.1, 9.2) -/

theorem RepairStore.slot_setSlot (p : RepairStore) (i j : Fin 48) (v : StoreSlot) :
    (p.setSlot i v).slot j = if j = i then v else p.slot j := by
  simp only [RepairStore.slot, RepairStore.setSlot, Fin.getElem_fin, Vector.getElem_set]
  by_cases h : j = i
  · simp [h]
  · have : i.val ≠ j.val := fun e => h (Fin.ext e.symm)
    simp [h, this]

@[simp] theorem RepairStore.slot_atReset (p : RepairStore) (i : Fin 48) : p.atReset.slot i = p.slot i := rfl

@[simp] theorem RepairStore.setSlot_burn (p : RepairStore) (i : Fin 48) (v : StoreSlot) :
    (p.setSlot i v).burn = p.burn := rfl

/-- What the store of a state keeps of the slots of a store `p0`, with the slot of a burn in progress BAD
(R151, R152). -/
structure StoreKept (p0 p : RepairStore) : Prop where
  burn : ∀ u : Burn, p.burn = some u → p.slot u.slot = .bad
  written : ∀ i b l x, p0.slot i = .written b l x → p.slot i = .written b l x
  begun : ∀ i, p0.slot i ≠ .blank → p.slot i ≠ .blank

/-- An attempt on a BLANK slot begins. -/
theorem StoreKept.beginAttempt {p0 p : RepairStore} (h : StoreKept p0 p) (u : Burn)
    (blank : p.slot u.slot = .blank) : StoreKept p0 (p.beginAttempt u) := by
  have slots : (p.beginAttempt u).slot = (p.setSlot u.slot .bad).slot := rfl
  refine ⟨?_, fun i b l x hi => ?_, fun i hi => ?_⟩
  · rintro _ ⟨⟩
    simp [slots, RepairStore.slot_setSlot]
  · have := h.written i b l x hi
    rw [slots, RepairStore.slot_setSlot, if_neg, this]
    rintro rfl
    simp [blank] at this
  · rw [slots, RepairStore.slot_setSlot]
    split
    · simp
    · exact h.begun i hi

/-- The burn ends, whatever its result, with its slot as it stands. -/
theorem StoreKept.burnEnded {p0 p : RepairStore} (h : StoreKept p0 p) (select : Fin 64) :
    StoreKept p0 { p with burn := none, select := select } :=
  ⟨fun _ => nofun, h.written, h.begun⟩

/-- The slot under attempt is verified (R156). -/
theorem StoreKept.verified {p0 p : RepairStore} (h : StoreKept p0 p) {u : Burn} (burn : p.burn = some u) :
    StoreKept p0 { p.setSlot u.slot (.written u.bank u.row u.spare) with burn := none } := by
  have bad := h.burn u burn
  refine ⟨fun _ => nofun, fun i b l x hi => ?_, fun i hi => ?_⟩
  · have := h.written i b l x hi
    show (p.setSlot _ _).slot i = _
    rw [RepairStore.slot_setSlot, if_neg, this]
    rintro rfl
    simp [bad] at this
  · show (p.setSlot _ _).slot i ≠ _
    rw [RepairStore.slot_setSlot]
    split
    · simp
    · exact h.begun i hi

@[simp] theorem burnPasses_rps (u : Burn) (s : State) : (burnPasses u s).rps =
    { s.rps.setSlot u.slot (.written u.bank u.row u.spare) with burn := none } := by
  unfold burnPasses
  dsimp only
  split <;> simp

@[simp] theorem burnFails_rps (u : Burn) (s : State) : (burnFails u s).rps = { s.rps with burn := none } := by
  simp [burnFails]

theorem storeKept_keptByAll (p0 : RepairStore) : KeptByAll fun s => StoreKept p0 s.rps := by
  have kept : Kept fun s => StoreKept p0 s.rps := by
    constructor
    case burnPasses => intro s u burn h; simpa using h.verified burn
    case burnFails => intro s u _ h; simpa using h.burnEnded s.rps.select
    case nextAttempt =>
      intro s u i _ lowest h
      exact h.beginAttempt _ (RepairStore.lowestBlank?_eq_some_iff.mp lowest).1
    case burnBegun =>
      intro s b l x i _ lowest h
      exact h.beginAttempt _ (RepairStore.lowestBlank?_eq_some_iff.mp lowest).1
    case storeRpsSelect => exact fun s w h => ⟨h.burn, h.written, h.begun⟩
    all_goals
      intros
      simp_all
  apply KeptByAll.mk kept
  case lines =>
    intro s t keeps _ h
    simpa [keepsAllBut_lines keeps] using h
  case warmReset => exact fun s h => h.burnEnded 0
  case applyPower => exact fun s _ h => h.burnEnded 0
  case losePower => exact fun s h => h.burnEnded 0
  all_goals
    intros
    simp_all

/-- Settles O58: of the changes of the store, one begins an attempt on a BLANK slot, one verifies the slot
under attempt, and the others end the burn with every slot as it stands. -/
theorem stepKeepsTheRepairStore : Obligations.StepKeepsTheRepairStore := by
  intro s t burn stepped
  have kept := (storeKept_keptByAll s.rps).step stepped ⟨burn, fun _ _ _ _ h => h, fun _ h => h⟩
  exact ⟨kept.burn, kept.written, kept.begun⟩

end Sys2Proof.Machine
end

section
/-! The fault record table: what each of its changes makes of a slot and of the queue (Chapter 7), and the
exactness of the candidate queue. -/

namespace Sys2Proof.Machine

/-! ### Slots and queue after each edit -/

theorem FaultTable.slot_setSlot (f : FaultTable) (i j : Fin 32) (r : Option FaultRecord) :
    (f.setSlot i r).slot j = if j = i then r else f.slot j := by
  simp only [FaultTable.slot, FaultTable.setSlot, Fin.getElem_fin, Vector.getElem_set]
  by_cases h : j = i
  · simp [h]
  · have : i.val ≠ j.val := fun e => h (Fin.ext e.symm)
    simp [h, this]

@[simp] theorem FaultTable.slot_setSlot_same (f : FaultTable) (i : Fin 32) (r : Option FaultRecord) :
    (f.setSlot i r).slot i = r := by simp [FaultTable.slot_setSlot]

theorem FaultTable.slot_setSlot_ne (f : FaultTable) {i j : Fin 32} (r : Option FaultRecord) (h : j ≠ i) :
    (f.setSlot i r).slot j = f.slot j := by simp [FaultTable.slot_setSlot, h]

@[simp] theorem FaultTable.queue_setSlot (f : FaultTable) (i : Fin 32) (r : Option FaultRecord) :
    (f.setSlot i r).queue = f.queue := rfl

@[simp] theorem FaultTable.slot_leave (f : FaultTable) (i j : Fin 32) : (f.leave i).slot j = f.slot j := rfl

@[simp] theorem FaultTable.queue_leave (f : FaultTable) (i : Fin 32) :
    (f.leave i).queue = f.queue.filter fun j => j != i := rfl

theorem FaultTable.slot_keep (f : FaultTable) (test : FaultRecord → Bool) (i : Fin 32) :
    (f.keep test).slot i = (f.slot i).filter test := by
  simp [FaultTable.slot, FaultTable.keep]

@[simp] theorem FaultTable.queue_keep (f : FaultTable) (test : FaultRecord → Bool) :
    (f.keep test).queue = f.queue.filter fun i => ((f.slot i).map test).getD false := rfl

theorem FaultTable.keepsOtherSlots_setSlot (f : FaultTable) (i : Fin 32) (r : Option FaultRecord) :
    keepsOtherSlots i f (f.setSlot i r) := ⟨fun _ hj => f.slot_setSlot_ne r hj, rfl, rfl, rfl⟩

/-! ### The queue of candidates (R129) -/

/-- The queue holds exactly the CANDIDATE records, each once. -/
structure FaultTable.Queued (f : FaultTable) : Prop where
  once : f.queue.Nodup
  exact : ∀ i : Fin 32, i ∈ f.queue ↔ f.isCandidate i

theorem candidateInv_iff {s : State} : CandidateInv s ↔ s.frt.Queued :=
  ⟨fun h => ⟨h.once, h.exact⟩, fun h => ⟨h.once, h.exact⟩⟩

/-- A slot's record is a CANDIDATE. -/
def candidateIn (o : Option FaultRecord) : Prop := ∃ r, o = some r ∧ r.state = .candidate

theorem FaultTable.isCandidate_setSlot (f : FaultTable) (i j : Fin 32) (o : Option FaultRecord) :
    (f.setSlot i o).isCandidate j ↔ if j = i then candidateIn o else f.isCandidate j := by
  simp only [FaultTable.isCandidate, FaultTable.slot_setSlot]
  split <;> simp [candidateIn]

namespace FaultTable.Queued

variable {f : FaultTable}

/-- A table with the same slots and queue. -/
theorem congr {g : FaultTable} (h : f.Queued) (slots : g.slots = f.slots) (queue : g.queue = f.queue) :
    g.Queued := by
  refine ⟨queue ▸ h.once, fun i => ?_⟩
  rw [queue, h.exact]
  simp [FaultTable.isCandidate, FaultTable.slot, slots]

/-- A record changes, and whether it is a CANDIDATE does not. -/
theorem setSlot {i : Fin 32} {o : Option FaultRecord} (h : f.Queued)
    (same : candidateIn o ↔ f.isCandidate i) : (f.setSlot i o).Queued := by
  refine ⟨h.once, fun j => ?_⟩
  rw [f.queue_setSlot, h.exact, f.isCandidate_setSlot]
  split
  · rename_i hj
    rw [hj, same]
  · rfl

/-- A record that is no CANDIDATE now is out of the queue (R129). -/
theorem setSlot_leave {i : Fin 32} {o : Option FaultRecord} (h : f.Queued) (not : ¬candidateIn o) :
    ((f.setSlot i o).leave i).Queued := by
  refine ⟨h.once.filter _, fun j => ?_⟩
  have cand : ((f.setSlot i o).leave i).isCandidate j ↔ if j = i then candidateIn o else f.isCandidate j :=
    f.isCandidate_setSlot i j o
  rw [cand, FaultTable.queue_leave, f.queue_setSlot, List.mem_filter, h.exact]
  by_cases hj : j = i <;> simp [hj, not]

/-- A record that becomes a CANDIDATE joins the queue (R128, R116, R137). -/
theorem join {g : FaultTable} {i : Fin 32} {o : Option FaultRecord} (h : f.Queued)
    (fresh : ¬f.isCandidate i) (becomes : candidateIn o) (slots : g.slots = (f.setSlot i o).slots)
    (queue : g.queue.Perm (i :: f.queue)) : g.Queued := by
  refine ⟨queue.nodup_iff.mpr (List.nodup_cons.mpr ⟨fun m => fresh ((h.exact i).mp m), h.once⟩), fun j => ?_⟩
  have cand : g.isCandidate j ↔ (f.setSlot i o).isCandidate j := by
    simp [FaultTable.isCandidate, FaultTable.slot, slots]
  rw [cand, f.isCandidate_setSlot, queue.mem_iff, List.mem_cons, h.exact]
  by_cases hj : j = i <;> simp [hj, becomes]

/-- Records are removed, and those among them that were candidates leave the queue (R129). -/
theorem keep (h : f.Queued) (test : FaultRecord → Bool) : (f.keep test).Queued := by
  refine ⟨h.once.filter _, fun j => ?_⟩
  rw [f.queue_keep, List.mem_filter, h.exact]
  simp only [FaultTable.isCandidate, f.slot_keep]
  cases f.slot j <;> simp [Option.filter]
  tauto

/-! ### The changes of Chapter 7 -/

theorem removeSlot (h : f.Queued) (i : Fin 32) : (f.removeSlot i).Queued :=
  h.setSlot_leave (by simp [candidateIn])

theorem take (h : f.Queued) (b : Bank) (p : PhysRow) : (f.take b p).Queued := by
  unfold FaultTable.take
  split
  · exact h
  · refine h.setSlot_leave ?_
    cases f.slot _ <;> simp [candidateIn]

theorem not_isCandidate_of_migratingSlot? {i : Fin 32} (found : f.migratingSlot? = some i) :
    ¬f.isCandidate i := by
  obtain ⟨r, slot, state⟩ := FaultTable.slot_of_migratingSlot? found
  rintro ⟨q, hq, candidate⟩
  rw [slot, Option.some.injEq] at hq
  rw [hq, candidate] at state
  cases state

theorem atCommit (h : f.Queued) : f.atCommit.Queued := by
  unfold FaultTable.atCommit
  split
  · exact h
  · exact h.removeSlot _

theorem atFailure (h : f.Queued) : f.atFailure.Queued := by
  unfold FaultTable.atFailure FaultTable.release
  split
  · exact h
  · rename_i i found
    refine h.setSlot (iff_of_false ?_ (not_isCandidate_of_migratingSlot? found))
    cases f.slot i <;> simp [candidateIn]

theorem released {i : Fin 32} (found : f.migratingSlot? = some i) :
    candidateIn ((f.slot i).map fun r => { r with state := .candidate }) := by
  obtain ⟨r, slot, -⟩ := FaultTable.slot_of_migratingSlot? found
  exact ⟨{ r with state := .candidate }, by simp [slot], rfl⟩

theorem atAbort (h : f.Queued) : f.atAbort.Queued := by
  unfold FaultTable.atAbort
  split
  · exact h
  · rename_i i found
    refine h.join (not_isCandidate_of_migratingSlot? found) (released found) ?_ ?_
    · simp [FaultTable.release, found]
    · exact List.perm_append_comm

theorem atReset (h : f.Queued) : f.atReset.Queued := by
  unfold FaultTable.atReset
  split
  · exact h.congr rfl rfl
  · rename_i i found
    exact h.join (not_isCandidate_of_migratingSlot? found) (released found)
      (by simp [FaultTable.release, found]) (List.Perm.refl _)

end FaultTable.Queued

/-! ### The slot of a notice (R125, R126) -/

/-- The search for a record to evict returns a WATCH record of the table (R126). -/
theorem considerEviction_watch {f : FaultTable} {now : BitVec 16} {best : Option (Fin 32 × FaultRecord)}
    (h : ∀ i r, best = some (i, r) → f.slot i = some r ∧ r.state = .watch) (j : Fin 32) :
    ∀ i r, f.considerEviction now best j = some (i, r) → f.slot i = some r ∧ r.state = .watch := by
  intro i r found
  unfold FaultTable.considerEviction at found
  split at found
  · exact h i r found
  · rename_i q slot
    split at found
    · rename_i watch
      split at found
      · cases found
        exact ⟨slot, watch⟩
      · split at found
        · cases found
          exact ⟨slot, watch⟩
        · exact h i r found
    · exact h i r found

theorem slot_of_evictionSlot? {f : FaultTable} {now : BitVec 16} {i : Fin 32}
    (h : f.evictionSlot? now = some i) : ∃ r, f.slot i = some r ∧ r.state = .watch := by
  simp only [FaultTable.evictionSlot?, Option.map_eq_some_iff, Prod.exists, exists_and_right,
    exists_eq_right] at h
  obtain ⟨r, found⟩ := h
  refine ⟨r, List.foldlRecOn (motive := fun best => ∀ i r, best = some (i, r) →
    f.slot i = some r ∧ r.state = .watch) (List.finRange 32) _ (fun _ _ h => by cases h)
    (fun _ h j _ => considerEviction_watch h j) i r found⟩

/-- A notice's record is the one that stands in its slot, or a new one that is no CANDIDATE in a slot that is
empty or holds a WATCH record (R124 to R126). -/
theorem place?_cases {f : FaultTable} {n : Notice} {now : BitVec 16} {source : Bool} {i : Fin 32}
    {r : FaultRecord} (h : f.place? n now source = some (i, r)) :
    f.slot i = some r ∧ r.bank = n.bank ∧ r.row = n.row ∨
      r = newRecord n now source ∧ f.slotOf? n.bank n.row = none ∧
        (f.slot i = none ∨ ∃ q, f.slot i = some q ∧ q.state = .watch) := by
  unfold FaultTable.place? at h
  split at h
  · rename_i j found
    obtain ⟨q, slot, bank, row⟩ := FaultTable.slot_of_slotOf? found
    simp only [slot, Option.map_some, Option.some.injEq, Prod.mk.injEq] at h
    obtain ⟨rfl, rfl⟩ := h
    exact .inl ⟨slot, bank, row⟩
  · rename_i unknown
    split at h
    · rename_i j empty
      simp only [Option.some.injEq, Prod.mk.injEq] at h
      obtain ⟨rfl, rfl⟩ := h
      exact .inr ⟨rfl, unknown, .inl (FaultTable.lowestEmpty?_eq_some_iff.mp empty).1⟩
    · simp only [Option.map_eq_some_iff, Prod.mk.injEq] at h
      obtain ⟨j, evicted, rfl, rfl⟩ := h
      exact .inr ⟨rfl, unknown, .inr (slot_of_evictionSlot? evicted)⟩

@[simp] theorem FaultRecord.count_state (r : FaultRecord) (n : Notice) (now : BitVec 16) :
    (r.count n now).state = r.state := rfl

theorem FaultTable.Queued.countIn {f : FaultTable} (h : f.Queued) {n : Notice} {now : BitVec 16}
    {source : Bool} {i : Fin 32} {r : FaultRecord} (placed : f.place? n now source = some (i, r))
    (threshold : Fin 16) : (f.countIn i r n now threshold).Queued := by
  have same : candidateIn (some (r.count n now)) ↔ f.isCandidate i := by
    have new (source : Bool) : (newRecord n now source).state ≠ .candidate := by cases source <;> simp [newRecord]
    obtain ⟨slot, -⟩ | ⟨rfl, -, empty | ⟨q, slot, watch⟩⟩ := place?_cases placed
    · simp [candidateIn, FaultTable.isCandidate, slot]
    · simp [candidateIn, FaultTable.isCandidate, empty, new]
    · simp [candidateIn, FaultTable.isCandidate, slot, watch, new]
  unfold FaultTable.countIn
  dsimp only
  split
  · rename_i promoted
    have watch : r.state = .watch := by
      simp only [FaultRecord.promoted, Bool.and_eq_true, beq_iff_eq] at promoted
      exact promoted.1
    have fresh : ¬f.isCandidate i := fun c => by
      obtain ⟨q, hq, candidate⟩ := same.mpr c
      rw [← Option.some.inj hq, FaultRecord.count_state, watch] at candidate
      cases candidate
    exact h.join fresh ⟨{ r.count n now with state := .candidate }, rfl, rfl⟩ rfl List.perm_append_comm
  · exact h.setSlot same

theorem FaultTable.Queued.receiveNotice {s : State} (h : s.frt.Queued) (n : Notice) :
    (receiveNotice n s).frt.Queued := by
  unfold Machine.receiveNotice
  split
  · split
    · rename_i placed
      exact h.countIn placed _
    · simpa using h
  · exact h

theorem FaultTable.Queued.decay {f : FaultTable} (h : f.Queued) (now : BitVec 16) : (f.decay now).Queued := h.keep _

theorem FaultTable.Queued.clearBank {f : FaultTable} (h : f.Queued) (b : Bank) : (f.clearBank b).Queued := h.keep _

theorem FaultTable.Queued.passEnd {s : State} (h : s.frt.Queued) : (passEnd s).frt.Queued := by
  simpa [Machine.passEnd] using FaultTable.Queued.decay h _

theorem FaultTable.Queued.stepEnds {s : State} (h : s.frt.Queued) : (stepEnds s).frt.Queued := by
  have advance (p : Position) : (advanceCursor p (forgetStep s)).frt.Queued := by
    unfold Machine.advanceCursor
    split
    · simpa using h
    · exact FaultTable.Queued.passEnd (s := forgetStep s) (by simpa using h)
  unfold Machine.stepEnds
  split
  · exact h
  · exact advance _
  · split
    · simpa using h
    · exact advance _

theorem FaultTable.Queued.applyAbort {s : State} (h : s.frt.Queued) (b : Bank) (l : LogicalRow) :
    (applyAbort b l s).frt.Queued := by
  unfold Machine.applyAbort
  split
  · simpa using h.atAbort
  · exact h

theorem FaultTable.Queued.copyEnds {s : State} (h : s.frt.Queued) (n : LineNo) (v : Bool) :
    (copyEnds n v s).frt.Queued := by
  unfold Machine.copyEnds
  split
  · split
    · simpa using h.applyAbort _ _
    · split
      · split
        · unfold copied
          split
          · simpa using h
          · simpa [commitMigration] using h.atCommit
        · unfold verifyFailed
          split
          · split
            · simpa using h
            · simpa [failMigration] using h.atFailure
          · simpa [failMigration] using h.atFailure
      · exact h
  all_goals exact h

theorem queued_keptByAll : KeptByAll fun s => s.frt.Queued := by
  have kept : Kept fun s => s.frt.Queued := by
    constructor
    case discardStep =>
      exact fun s b _ _ _ h => FaultTable.Queued.stepEnds (s := s.setBank b _) (by simpa using h)
    case stepEnds => exact fun s b _ _ _ _ h => FaultTable.Queued.stepEnds (by simpa using h)
    case copyEnds => exact fun s b _ _ _ n v _ h => FaultTable.Queued.copyEnds (by simpa using h) n v
    case receiveNotice => exact fun n s h => h.receiveNotice n
    case passEnd => exact fun s _ h => h.passEnd
    case startOn => intro s b l x _ _ _ h; simpa [startOn] using h.take _ _
    case clearBegun => intro s _ _ _ h; simpa [beginClear] using h.clearBank _
    case abortAtRest => exact fun s b l _ h => h.applyAbort b l
    case abortWaiting => exact fun s b l _ h => FaultTable.Queued.applyAbort (by simpa using h) b l
    case recordDropped => exact fun s i _ _ _ h => h.removeSlot i
    case storeFrtSelect => exact fun s w h => h.congr rfl rfl
    case readEntryA => exact fun s h => h.congr rfl rfl
    all_goals
      intros
      simp_all
  have empty : State.reset.frt.Queued := by
    refine ⟨List.nodup_nil, fun i => iff_of_false (by simp [State.reset]) ?_⟩
    simp [FaultTable.isCandidate, FaultTable.slot, State.reset]
  apply KeptByAll.mk kept
  case lines =>
    intro s t keeps _ h
    simpa [keepsAllBut_lines keeps] using h
  case warmReset => exact fun s h => h.atReset
  all_goals
    intros
    simp_all

/-- Settles O57: the queue changes with the state of a record, where a record enters or leaves CANDIDATE. -/
theorem stepKeepsTheCandidateQueueExact : Obligations.StepKeepsTheCandidateQueueExact := fun _ _ queued stepped =>
  candidateInv_iff.mpr (queued_keptByAll.step stepped (candidateInv_iff.mp queued))

end Sys2Proof.Machine
end

section
/-! What each primitive change makes of the section of every bank (Table 2-1), and the soundness of retention. -/

namespace Sys2Proof.Machine

/-- The bank in whose patrol slot the outstanding step waits (R23). -/
def PatrolStep.waitsAt? : PatrolStep → Option Bank
  | .waiting p => some p.bank
  | .none => Option.none
  | .running _ _ => Option.none

theorem PatrolStep.waitsAt?_eq_some_iff {v : PatrolStep} {b : Bank} :
    v.waitsAt? = some b ↔ ∃ p, v = .waiting p ∧ p.bank = b := by
  cases v <;> simp [PatrolStep.waitsAt?]

/-- The bank in whose migration slot the engine's copy request waits (R23). -/
def EngineState.waitsAt? : EngineState → Option Bank
  | .copying b _ .waiting => some b
  | .copying _ _ .absent => none
  | .copying _ _ (.running _ _) => none
  | .idle => none
  | .parked _ _ => none

theorem EngineState.waitsAt?_eq_some_iff {v : EngineState} {b : Bank} :
    v.waitsAt? = some b ↔ ∃ l, v = .copying b l .waiting := by
  rcases v with - | ⟨c, l, - | - | -⟩ | - <;> simp [EngineState.waitsAt?]

/-! ### The controller state and the tables, as the changes leave them -/

@[simp] theorem entering_bank (s : State) (x : Bank) : (entering s).bank x = s.bank x :=
  State.bank_congr (by simp) x
@[simp] theorem entering_remap (s : State) (x : Bank) : (entering s).remap x = s.remap x :=
  State.remap_congr (by simp) x
@[simp] theorem exited_bank (s : State) (x : Bank) : (exited s).bank x = s.bank x :=
  State.bank_congr (by simp) x
@[simp] theorem exited_remap (s : State) (x : Bank) : (exited s).remap x = s.remap x :=
  State.remap_congr (by simp) x
@[simp] theorem leaving_remap (s : State) (x : Bank) : (leaving s).remap x = s.remap x :=
  State.remap_congr (by simp) x
@[simp] theorem requestPlaced_remap (q : Request) (s : State) (x : Bank) : (requestPlaced q s).remap x = s.remap x :=
  State.remap_congr (by simp) x
@[simp] theorem copyPlaced_remap (b : Bank) (l : LogicalRow) (s : State) (x : Bank) : (copyPlaced b l s).remap x = s.remap x :=
  State.remap_congr (by simp) x
@[simp] theorem clearPlaced_remap (b : Bank) (p : RowLine) (s : State) (x : Bank) : (clearPlaced b p s).remap x = s.remap x :=
  State.remap_congr (by simp) x
@[simp] theorem stepPlaced_remap (p : Position) (s : State) (x : Bank) : (stepPlaced p s).remap x = s.remap x :=
  State.remap_congr (by simp) x

@[simp] theorem State.remap_mapBanks (s : State) (f : BankSection → BankSection) (x : Bank) :
    (s.mapBanks f).remap x = s.remap x := rfl
@[simp] theorem State.bank_rstLevel (s : State) (v : Bool) (x : Bank) :
    ({ s with rstAsserted := v } : State).bank x = s.bank x := rfl
@[simp] theorem State.remap_rstLevel (s : State) (v : Bool) (x : Bank) :
    ({ s with rstAsserted := v } : State).remap x = s.remap x := rfl
@[simp] theorem State.bank_powered (s : State) (v : Bool) (x : Bank) :
    ({ s with powered := v } : State).bank x = s.bank x := rfl
@[simp] theorem State.remap_powered (s : State) (v : Bool) (x : Bank) :
    ({ s with powered := v } : State).remap x = s.remap x := rfl
@[simp] theorem storeConfig_state (w : Word) (s : State) : (storeConfig w s).hpt.state = s.hpt.state := rfl
@[simp] theorem beginStart_state (s : State) : (beginStart s).hpt.state = .starting .loading := rfl
@[simp] theorem becomeReady_state (s : State) : (becomeReady s).hpt.state = .ready := rfl
@[simp] theorem entering_state (s : State) : (entering s).hpt.state = .enteringRetention := rfl
@[simp] theorem leaving_state (s : State) : (leaving s).hpt.state = .leavingRetention := rfl
@[simp] theorem exited_state (s : State) : (exited s).hpt.state = .ready := rfl

/-! ### The section of every bank after each change -/

theorem grantHost_section (b : Bank) (q : Request) (s : State) (x : Bank) :
    (grantHost b q s).bank x = if x = b then
      { s.bank b with
        phase := .busy (hostOperation q ((s.remap b).translate q.row q.line) (s.buf.line q.buffer).words) .deliver
        hostSlot := none
        migrationAge := ageMigration (s.bank b)
        patrolAge := agePatrol (s.bank b) }
    else s.bank x := s.bank_setBank ..

theorem grantCopy_section (b : Bank) (s : State) (x : Bank) :
    (grantCopy b s).bank x = match (s.remap b).pending? with
      | some e => if x = b then
          { s.bank b with
            phase := .busy (copyOperation e) .deliver
            migrationSlot := false
            migrationAge := 0
            patrolAge := agePatrol (s.bank b) }
        else s.bank x
      | none => s.bank x := by
  unfold grantCopy
  cases (s.remap b).pending? with
  | none => rfl
  | some e => simp [State.bank_setBank]

theorem grantStep_section (b : Bank) (p : RowLine) (s : State) (x : Bank) :
    (grantStep b p s).bank x = if x = b then
      { s.bank b with
        phase := .busy
          (.scrubLine ((s.remap b).scrubRows p.row p.line) p.line ((s.remap b).logicalOf p.row)) .deliver
        patrolSlot := none
        patrolAge := 0 }
    else s.bank x := by simp [grantStep, State.bank_setBank]

theorem grantClear_section (b : Bank) (p : RowLine) (s : State) (x : Bank) :
    (grantClear b p s).bank x = if x = b then
      { s.bank b with phase := .busy (.clearLine p.row p.line) .deliver, clearSlot := none }
    else s.bank x := s.bank_setBank ..

theorem grantRefresh_section (b : Bank) (s : State) (x : Bank) :
    (grantRefresh b s).bank x = if x = b then { s.bank b with phase := .busy .refresh .deliver }
    else s.bank x := s.bank_setBank ..

theorem discardStep_section (b : Bank) (s : State) (x : Bank) :
    (discardStep b s).bank x = if x = b then { s.bank b with patrolSlot := none, patrolAge := 0 }
    else s.bank x := by simp [discardStep, State.bank_setBank]

theorem idleBank_section (b : Bank) (s : State) (x : Bank) :
    (idleBank b s).bank x = if x = b then { s.bank b with phase := .idle } else s.bank x := s.bank_setBank ..

theorem retainBank_section (b : Bank) (s : State) (x : Bank) :
    (retainBank b s).bank x = if x = b then { s.bank b with phase := .retained, debt := 0 }
    else s.bank x := by
  unfold retainBank
  dsimp only
  split <;> simp [State.bank_setBank]

theorem clearLineEnds_section (b : Bank) (p : RowLine) (s : State) (x : Bank) :
    (clearLineEnds b p s).bank x =
      if x = b ∧ s.mnt.clear.map BankClear.bank = some b ∧ clearAfter (s.remap b) p = none then
        { s.bank b with condition := .formatted }
      else s.bank x := by
  unfold clearLineEnds
  rcases clear : s.mnt.clear with - | ⟨c, q⟩
  · simp
  · by_cases same : c = b
    · subst same
      cases next : clearAfter (s.remap c) p with
      | some r => simp
      | none => simp [finishClear, State.bank_setBank]
    · simp [same]

theorem requestPlaced_section (q : Request) (s : State) (x : Bank) :
    (requestPlaced q s).bank x = if x = q.bank then { s.bank q.bank with hostSlot := some q } else s.bank x := by
  simp [requestPlaced, State.bank_setBank]

theorem copyPlaced_section (b : Bank) (l : LogicalRow) (s : State) (x : Bank) :
    (copyPlaced b l s).bank x = if x = b then { s.bank b with migrationSlot := true } else s.bank x := by
  simp [copyPlaced, State.bank_setBank]

theorem clearPlaced_section (b : Bank) (p : RowLine) (s : State) (x : Bank) :
    (clearPlaced b p s).bank x = if x = b then { s.bank b with clearSlot := some p } else s.bank x :=
  s.bank_setBank ..

theorem stepPlaced_section (p : Position) (s : State) (x : Bank) :
    (stepPlaced p s).bank x = if x = p.bank then { s.bank p.bank with patrolSlot := some ⟨p.row, p.line⟩ }
    else s.bank x := by simp [stepPlaced, State.bank_setBank]

theorem withdrawCopy_section (b : Bank) (s : State) (x : Bank) :
    (withdrawCopy b s).bank x = if x = b then { s.bank b with migrationSlot := false, migrationAge := 0 }
    else s.bank x := s.bank_setBank ..

theorem park_section (s : State) (x : Bank) :
    (park s).bank x = if s.mig.state.waitsAt? = some x then
      { s.bank x with migrationSlot := false, migrationAge := 0 } else s.bank x := by
  unfold park
  split <;> rename_i engine
  case h_4 b l =>
    by_cases same : x = b
    · subst same
      simp [engine, EngineState.waitsAt?, withdrawCopy_section]
    · simp [engine, EngineState.waitsAt?, withdrawCopy_section, same, Ne.symm same]
  all_goals simp [engine, EngineState.waitsAt?]

theorem withdrawStepAt_section (p : Position) (s : State) (x : Bank) :
    (withdrawStepAt p s).bank x = if x = p.bank then { s.bank p.bank with patrolSlot := none, patrolAge := 0 }
    else s.bank x := by simp [withdrawStepAt, State.bank_setBank]

theorem withdrawStep_section (s : State) (x : Bank) :
    (withdrawStep s).bank x = if s.ptl.step.waitsAt? = some x then
      { s.bank x with patrolSlot := none, patrolAge := 0 } else s.bank x := by
  unfold withdrawStep
  split <;> rename_i step
  · rename_i p
    by_cases same : x = p.bank
    · subst same
      simp [step, PatrolStep.waitsAt?, withdrawStepAt_section]
    · simp [step, PatrolStep.waitsAt?, withdrawStepAt_section, same, Ne.symm same]
  all_goals simp [step, PatrolStep.waitsAt?]

theorem withdrawStepOf_section (b : Bank) (s : State) (x : Bank) :
    (withdrawStepOf b s).bank x = if x = b ∧ s.ptl.step.waitsAt? = some b then
      { s.bank b with patrolSlot := none, patrolAge := 0 } else s.bank x := by
  unfold withdrawStepOf
  split <;> rename_i step
  · rename_i p
    by_cases same : p.bank = b
    · subst same
      simp [step, PatrolStep.waitsAt?, withdrawStepAt_section]
    · simp [step, PatrolStep.waitsAt?, same]
  all_goals simp [step, PatrolStep.waitsAt?]

theorem restartCursor_section (s : State) (x : Bank) :
    (restartCursor s).bank x = if s.ptl.step.waitsAt? = some x then
      { s.bank x with patrolSlot := none, patrolAge := 0 } else s.bank x := by
  unfold restartCursor
  split <;> rename_i step
  case h_2 p =>
    by_cases same : x = p.bank
    · subst same
      simp [step, PatrolStep.waitsAt?, withdrawStepAt_section]
    · simp [step, PatrolStep.waitsAt?, withdrawStepAt_section, same, Ne.symm same]
  all_goals simp [step, PatrolStep.waitsAt?]

theorem beginClear_section (b : Bank) (s : State) (x : Bank) :
    (beginClear b s).bank x =
      if x = b then { (withdrawStepOf b s).bank b with condition := .clearing } else s.bank x := by
  simp only [beginClear, State.bank_setMnt, State.bank_setFrt, State.bank_setBank]
  split
  · rfl
  · rename_i other
    simp [withdrawStepOf_section, other]

theorem leaving_section (s : State) (x : Bank) : (leaving s).bank x = leaveRetained (s.bank x) := by
  simp [leaving]

@[simp] theorem warmReset_bank (s : State) (x : Bank) : (warmReset s).bank x = resetBank (s.bank x) := by
  have : (warmReset s).bank x = (s.mapBanks resetBank).bank x := rfl
  simp [this]

@[simp] theorem powerOnValues_bank (s : State) (x : Bank) : (powerOnValues s).bank x = .initial := by
  simp [State.bank, powerOnValues, State.reset]

@[simp] theorem warmReset_hpt (s : State) :
    (warmReset s).hpt = { state := .heldInReset, threshold := 4, autoMigrate := false } := rfl

@[simp] theorem powerOnValues_hpt (s : State) : (powerOnValues s).hpt = State.reset.hpt := rfl

/-! ### Retention (R24, R38, R39) -/

theorem RetentionInv.of_none {t : State} (state : t.hpt.state ≠ .retained)
    (banks : ∀ b, (t.bank b).phase ≠ .retained) : RetentionInv t where
  banks b h := absurd h (banks b)
  all h := absurd h state

/-- A change that neither makes nor ends a RETAINED bank, and fills no host slot of one. -/
theorem RetentionInv.of_same {s t : State} (h : RetentionInv s) (state : t.hpt.state = s.hpt.state)
    (timer : t.refreshTimer = s.refreshTimer)
    (banks : ∀ b, ((t.bank b).phase = .retained ↔ (s.bank b).phase = .retained) ∧
      ((s.bank b).phase = .retained →
        (t.bank b).debt = (s.bank b).debt ∧ (t.bank b).hostSlot = (s.bank b).hostSlot)) : RetentionInv t where
  banks b retained := by
    have before := (banks b).1.mp retained
    obtain ⟨debt, slot⟩ := (banks b).2 before
    rw [debt, slot, state]
    exact h.banks b before
  all retained := by
    obtain ⟨all, stopped⟩ := h.all (state ▸ retained)
    exact ⟨fun b => (banks b).1.mpr (all b), timer ▸ stopped⟩

/-- Outside retention no bank is RETAINED. -/
theorem RetentionInv.not_retained {s : State} (h : RetentionInv s) (out : s.hpt.state ≠ .enteringRetention)
    (out' : s.hpt.state ≠ .retained) (b : Bank) : (s.bank b).phase ≠ .retained := fun retained =>
  (h.banks b retained).2.2.elim out out'

theorem mem_allBanks (b : Bank) : b ∈ allBanks := by revert b; decide

theorem allRetained_iff {s : State} : allRetained s = true ↔ ∀ b, (s.bank b).phase = .retained := by
  simp [allRetained, List.all_eq_true, mem_allBanks]

/-- A bank enters RETAINED during retention entry, and the last one ends the entry (R38). -/
theorem retainBank_state {b : Bank} {s : State} (may : mayRetain b s = true) :
    (retainBank b s).hpt.state = .enteringRetention ∨ (retainBank b s).hpt.state = .retained := by
  simp only [mayRetain, Bool.and_eq_true, beq_iff_eq] at may
  unfold retainBank
  dsimp only
  split
  · exact .inr rfl
  · exact .inl may.1.1

theorem RetentionInv.retainBank {s : State} {b : Bank} (h : RetentionInv s) (may : mayRetain b s = true) :
    RetentionInv (retainBank b s) := by
  simp only [mayRetain, Bool.and_eq_true, beq_iff_eq, Option.isNone_iff_eq_none] at may
  obtain ⟨⟨entering, idle⟩, empty⟩ := may
  have banks (x : Bank) (retained : ((Machine.retainBank b s).bank x).phase = .retained) :
      ((Machine.retainBank b s).bank x).debt = 0 ∧ ((Machine.retainBank b s).bank x).hostSlot = none := by
    rw [retainBank_section] at retained ⊢
    split at retained
    · rename_i same
      simp [same, empty]
    · rename_i other
      simp only [other, if_false]
      exact ⟨(h.banks x retained).1, (h.banks x retained).2.1⟩
  constructor
  · intro x retained
    refine ⟨(banks x retained).1, (banks x retained).2, ?_⟩
    unfold Machine.retainBank
    dsimp only
    split
    · exact .inr rfl
    · exact .inl entering
  · unfold Machine.retainBank
    dsimp only
    split
    · rename_i every
      exact fun _ => ⟨fun x => by simpa using allRetained_iff.mp every x, rfl⟩
    · intro retained
      simp [entering] at retained

theorem RetentionInv.idleBank {s : State} {b : Bank} {op : Operation} {d : Disposition} (h : RetentionInv s)
    (busy : (s.bank b).phase = .busy op d) : RetentionInv (idleBank b s) := by
  refine h.of_same (by simp) (by simp) fun x => ?_
  rw [idleBank_section]
  split <;> simp_all

theorem retentionInv_keptByAll : KeptByAll RetentionInv := by
  have kept : Kept RetentionInv := by
    constructor
    case beginStart =>
      intro s state h
      have none := h.not_retained (fun e => by simp [e, inStart] at state) (fun e => by simp [e, inStart] at state)
      exact .of_none (by simp) (by simpa using none)
    case loaded | started | restarting | restarted | exited =>
      intro s state h
      have none := h.not_retained (by simp [state]) (by simp [state])
      exact .of_none (by simp) (by simpa using none)
    case entering =>
      intro s _ state h
      have none := h.not_retained (by simp [state]) (by simp [state])
      exact .of_none (by simp) (by simpa using none)
    case retainBank => exact fun s b may h => h.retainBank may
    case leaving =>
      intro s _ _ _
      refine .of_none (by simp) fun b => ?_
      rw [leaving_section, leaveRetained]
      split <;> simp_all
    case charge =>
      intro s h
      refine h.of_same rfl rfl fun x => ?_
      rw [State.bank_mapBanks, chargeRefresh]
      split <;> simp_all
    case grantHost | grantStep | grantClear | discardStep =>
      intro s b _ idle _ h
      refine h.of_same (by simp) (by simp) fun x => ?_
      simp only [grantHost_section, grantStep_section, grantClear_section, discardStep_section]
      split <;> simp_all
    case grantRefresh =>
      intro s b idle h
      refine h.of_same (by simp) (by simp) fun x => ?_
      rw [grantRefresh_section]
      split <;> simp_all
    case grantCopy =>
      intro s b idle _ h
      refine h.of_same (by simp) (by simp) fun x => ?_
      rw [grantCopy_section]
      split
      · split <;> simp_all
      · simp
    case idled => exact fun s b op busy h => h.idleBank busy
    case refreshEnds => exact fun s b busy h => h.idleBank busy
    case requestEnds =>
      exact fun s b op q o f w busy _ h => (h.idleBank busy).of_same (by simp) (by simp) (by simp)
    case stepEnds => exact fun s b rows n l busy h => (h.idleBank busy).of_same (by simp) (by simp) (by simp)
    case copyEnds => exact fun s b l p x n v busy h => (h.idleBank busy).of_same (by simp) (by simp) (by simp)
    case clearLineEnds =>
      intro s b row n busy h
      refine (h.idleBank busy).of_same (by simp) (by simp) fun x => ?_
      rw [clearLineEnds_section]
      split <;> simp_all
    case requestPlaced =>
      intro s q _ may h
      have ready : s.hpt.state = .ready := by simp_all [eligible]
      have none := h.not_retained (by simp [ready]) (by simp [ready])
      refine .of_none (by simp [ready]) fun x => ?_
      rw [requestPlaced_section]
      split <;> exact none _
    case copyPlaced | clearPlaced =>
      intro s b _ _ h
      refine h.of_same (by simp) (by simp) fun x => ?_
      simp only [copyPlaced_section, clearPlaced_section]
      split <;> simp_all
    case stepPlaced =>
      intro s p _ h
      refine h.of_same (by simp) (by simp) fun x => ?_
      rw [stepPlaced_section]
      split <;> simp_all
    case park | withdrawStep | restartCursor =>
      intro s h
      refine h.of_same (by simp) (by simp) fun x => ?_
      simp only [park_section, withdrawStep_section, restartCursor_section]
      split <;> simp
    case clearBegun =>
      intro s _ _ _ h
      refine h.of_same (by simp) (by simp) fun x => ?_
      rw [beginClear_section, withdrawStepOf_section]
      split_ifs <;> simp_all
    case abortWaiting =>
      intro s b l _ h
      refine h.of_same (by simp) (by simp) fun x => ?_
      rw [applyAbort_bank, withdrawCopy_section]
      split <;> simp_all
    all_goals
      intros
      exact RetentionInv.of_same ‹_› (by simp) (by simp) (by simp)
  apply KeptByAll.mk kept
  case applyPower | losePower =>
    intros
    exact .of_none (by simp [State.reset]) (fun b => by
      rw [State.bank_powered, powerOnValues_bank]
      simp [BankSection.initial])
  case warmReset =>
    intro s _
    refine .of_none (by simp) fun b => ?_
    rw [warmReset_bank]
    cases phase : (s.bank b).phase <;> simp [resetBank, phase]
  case lines =>
    intro s t keeps _ h
    obtain ⟨hpt, banks, timer⟩ : t.hpt = s.hpt ∧ t.banks = s.banks ∧ t.refreshTimer = s.refreshTimer := by
      simp_all [keepsAllBut_iff]
    exact h.of_same (by rw [hpt]) timer (by simp [State.bank_congr banks])
  case lowered =>
    rintro s b ⟨d, busy⟩ h
    refine h.of_same (by simp) (by simp) fun x => ?_
    rw [State.bank_setBank]
    split <;> simp_all
  all_goals
    intros
    exact RetentionInv.of_same ‹_› (by simp) (by simp) (by simp)

/-- Settles O60: a bank enters RETAINED with debt 0 and an empty host slot during retention entry alone, and the
last one stops the timer. -/
theorem stepKeepsRetentionSound : Obligations.StepKeepsRetentionSound := fun _ _ sound stepped =>
  retentionInv_keptByAll.step stepped sound

end Sys2Proof.Machine
end

section
/-! Requests, line buffers, bank slots and completions in agreement (R44, R54, R62, R64, R66). -/

namespace Sys2Proof.Machine

/-! ### The host requests that a bank has in hand -/

theorem BankSection.hostWork_congr {k j : BankSection} (phase : j.phase = k.phase)
    (slot : j.hostSlot = k.hostSlot) : j.hostWork = k.hostWork := by
  simp only [BankSection.hostWork, phase, slot]

theorem BankSection.hostWork_idle {k : BankSection} (idle : k.phase = .idle) :
    k.hostWork = k.hostSlot.toList := by simp [BankSection.hostWork, idle]

theorem BankSection.hostWork_retained {k : BankSection} (retained : k.phase = .retained) :
    k.hostWork = k.hostSlot.toList := by simp [BankSection.hostWork, retained]

theorem BankSection.hostWork_discard {k : BankSection} {op : Operation} (busy : k.phase = .busy op .discard) :
    k.hostWork = k.hostSlot.toList := by simp [BankSection.hostWork, busy]

theorem BankSection.hostWork_deliver {k : BankSection} {op : Operation} (busy : k.phase = .busy op .deliver) :
    k.hostWork = k.hostSlot.toList ++ op.request?.toList := by simp [BankSection.hostWork, busy]

theorem hostOperation_request? (q : Request) (rows : Rows) (words : LineWords) :
    (hostOperation q rows words).request? = some q := by
  unfold hostOperation
  split
  · rfl
  · split <;> rfl

theorem copyOperation_request? (e : RemapEntry) : (copyOperation e).request? = none := by
  unfold copyOperation
  split <;> rfl

/-! ### Held requests -/

/-- Two held requests of one tag are the same one (R44). -/
theorem RequestInv.eq_of_tag {s : State} (h : RequestInv s) {a b : HeldRequest} (ha : a ∈ s.req.held)
    (hb : b ∈ s.req.held) (tag : a.request.tag = b.request.tag) : a = b :=
  List.inj_on_of_nodup_map h.tags ha hb tag

/-- Two held requests of one buffer are the same one (R44). -/
theorem RequestInv.eq_of_buffer {s : State} (h : RequestInv s) {a b : HeldRequest} (ha : a ∈ s.req.held)
    (hb : b ∈ s.req.held) (buffer : a.request.buffer = b.request.buffer) : a = b :=
  List.inj_on_of_nodup_map h.buffers ha hb buffer

/-- A change that keeps the held requests, the states of the buffers and what every bank has in hand, and adds
no completion record. -/
theorem RequestInv.of_same {s t : State} (h : RequestInv s) (held : t.req.held = s.req.held)
    (buf : ∀ i, (t.buf.line i).state = (s.buf.line i).state) (cpl : t.cpl.length ≤ s.cpl.length)
    (work : ∀ b, (t.bank b).hostWork = (s.bank b).hostWork) : RequestInv t where
  tags := held ▸ h.tags
  buffers := held ▸ h.buffers
  locked i := by rw [buf, held]; exact h.locked i
  inHand b q := by rw [work, held]; exact h.inHand b q
  single b := by rw [work]; exact h.single b
  room := by
    have room := h.room
    simp only [RequestQueue.inFlight, held] at room ⊢
    omega

/-- The completion of a held request that no bank has in hand any more (R70). -/
theorem RequestInv.completed {s t : State} {h : HeldRequest} (sound : RequestInv s)
    (member : h ∈ s.req.held) (req : t.req = s.req) (buf : t.buf = s.buf) (cpl : t.cpl = s.cpl)
    (work : ∀ b r, r ∈ (t.bank b).hostWork ↔ r ∈ (s.bank b).hostWork ∧ r.tag ≠ h.request.tag)
    (single : ∀ b, (t.bank b).hostWork.length ≤ 1)
    (room : (s.req.held.filter fun g => g.request.tag != h.request.tag).countP (fun g => g.state == .inFlight) +
      s.cpl.length < 8)
    (o : HostOutcome) (f : Bool) (w : Option LineWords) :
    RequestInv (completeRequest h.request o f w t) where
  tags := by
    simp only [completeRequest, State.setCpl_req, State.setBuf_req, State.setReq_req, req]
    exact (List.filter_sublist.map _).nodup sound.tags
  buffers := by
    simp only [completeRequest, State.setCpl_req, State.setBuf_req, State.setReq_req, req]
    exact (List.filter_sublist.map _).nodup sound.buffers
  locked i := by
    simp only [completeRequest, State.setCpl_req, State.setBuf_req, State.setReq_req, req,
      State.setCpl_buf, State.setBuf_buf, buf, List.mem_filter, bne_iff_ne]
    by_cases same : i = h.request.buffer
    · subst same
      simp only [Buffers.line_setLine_same, reduceCtorEq, false_iff, not_exists, not_and]
      rintro g ⟨held, tag⟩ buffer
      exact tag (sound.eq_of_buffer held member buffer ▸ rfl)
    · rw [Buffers.line_setLine_ne _ _ same, sound.locked]
      refine exists_congr fun g => ⟨fun ⟨held, buffer⟩ => ⟨⟨held, fun tag => same ?_⟩, buffer⟩,
        fun ⟨⟨held, _⟩, buffer⟩ => ⟨held, buffer⟩⟩
      rw [← buffer, sound.eq_of_tag held member tag]
  inHand b q := by
    simp only [completeRequest_bank, work, sound.inHand]
    simp only [completeRequest, State.setCpl_req, State.setBuf_req, State.setReq_req, req,
      List.mem_filter, bne_iff_ne]
    tauto
  single b := by rw [completeRequest_bank]; exact single b
  room := by
    simp only [completeRequest, State.setCpl_req, State.setBuf_req, State.setReq_req, req,
      State.setCpl_cpl, cpl, RequestQueue.inFlight, List.length_append, List.length_singleton]
    omega

/-- An operation whose result is delivered to a host is that of a request in flight, the only one that its bank
has in hand. -/
theorem RequestInv.of_delivers {s : State} {b : Bank} {op : Operation} {q : Request} (h : RequestInv s)
    (busy : delivers s b op) (request : op.request? = some q) :
    ⟨q, .inFlight⟩ ∈ s.req.held ∧ q.bank = b ∧ (s.bank b).hostSlot = none ∧ (s.bank b).hostWork = [q] := by
  have work := BankSection.hostWork_deliver busy
  have single := h.single b
  rw [work, request] at single
  have empty : (s.bank b).hostSlot = none := by
    cases slot : (s.bank b).hostSlot with
    | none => rfl
    | some r => simp [slot] at single
  rw [request, empty] at work
  have hand := (h.inHand b q).mp (by simp [work])
  exact ⟨hand.1, hand.2, empty, by simpa using work⟩

theorem RequestInv.requestEnds {s : State} {b : Bank} {op : Operation} {q : Request} (h : RequestInv s)
    (busy : delivers s b op) (request : op.request? = some q) (o : HostOutcome) (f : Bool)
    (w : Option LineWords) : RequestInv (completeRequest q o f w (idleBank b s)) := by
  obtain ⟨held, bank, empty, work⟩ := h.of_delivers busy request
  have idleWork : ((idleBank b s).bank b).hostWork = [] := by
    rw [BankSection.hostWork_idle (by simp)]
    simp [empty]
  refine RequestInv.completed (h := ⟨q, .inFlight⟩) h held (by simp) (by simp) (by simp)
    (fun c r => ?_) (fun c => ?_) ?_ o f w
  · by_cases same : c = b
    · subst same
      rw [idleWork, work]
      aesop
    · rw [idleBank_bank_ne b s c same]
      refine ⟨fun hand => ⟨hand, fun tag => same ?_⟩, fun hand => hand.1⟩
      obtain ⟨inFlight, at_c⟩ := (h.inHand c r).mp hand
      have := h.eq_of_tag inFlight held tag
      simp only [HeldRequest.mk.injEq, and_true] at this
      rw [← at_c, this, bank]
  · by_cases same : c = b
    · subst same
      rw [idleWork]
      exact Nat.zero_le _
    · rw [idleBank_bank_ne b s c same]
      exact h.single c
  · have parts := List.countP_eq_countP_filter_add s.req.held (fun g => g.state == .inFlight)
      (fun g => g.request.tag != q.tag)
    have ended : 0 < (s.req.held.filter fun g => !(g.request.tag != q.tag)).countP
        (fun g => g.state == .inFlight) :=
      List.countP_pos_iff.mpr ⟨⟨q, .inFlight⟩, by simpa using held, by simp⟩
    have room := h.room
    simp only [RequestQueue.inFlight] at room
    dsimp only
    omega

theorem RequestInv.answered {s : State} {g : HeldRequest} (h : RequestInv s) (held : g ∈ s.req.held)
    (takes : eligible s g = true) (o : HostOutcome) (f : Bool) (w : Option LineWords) :
    RequestInv (completeRequest g.request o f w s) := by
  simp only [eligible, Bool.and_eq_true, beq_iff_eq, decide_eq_true_eq] at takes
  obtain ⟨⟨⟨⟨waiting, -⟩, -⟩, -⟩, room⟩ := takes
  refine h.completed held rfl rfl rfl (fun c r => ?_) h.single ?_ o f w
  · refine ⟨fun hand => ⟨hand, fun tag => ?_⟩, fun hand => hand.1⟩
    have := h.eq_of_tag ((h.inHand c r).mp hand).1 held tag
    rw [← this] at waiting
    cases waiting
  · have fewer := (List.filter_sublist (l := s.req.held)
      (p := fun x => x.request.tag != g.request.tag)).countP_le (p := fun x => x.state == .inFlight)
    simp only [RequestQueue.inFlight] at room
    omega

/-! ### Dispatch and submit -/

theorem countP_or_le {α : Type} (p q : α → Bool) (l : List α) :
    l.countP (fun a => p a || q a) ≤ l.countP p + l.countP q := by
  induction l with
  | nil => simp
  | cons a l ih =>
    simp only [List.countP_cons]
    cases p a <;> cases q a <;> simp <;> omega

/-- A launch of a tag that one request carries adds one request in flight. -/
theorem RequestInv.launch_inFlight_le {s : State} (h : RequestInv s) (tag : BitVec 8) :
    (s.req.launch tag).inFlight ≤ s.req.inFlight + 1 := by
  have once : s.req.held.countP (fun g => g.request.tag == tag) ≤ 1 := by
    have := List.nodup_iff_count_le_one.mp h.tags tag
    rwa [List.count, List.countP_map] at this
  have moved : (s.req.launch tag).inFlight =
      s.req.held.countP (fun g => g.state == .inFlight || g.request.tag == tag) := by
    simp only [RequestQueue.inFlight, RequestQueue.launch, List.countP_map]
    refine List.countP_congr fun g _ => ?_
    by_cases same : g.request.tag = tag <;> simp [same]
  have parts := countP_or_le (fun g : HeldRequest => g.state == .inFlight) (fun g => g.request.tag == tag)
    s.req.held
  simp only [RequestQueue.inFlight] at moved ⊢
  omega

/-- After a launch the requests in flight are those before it and the one launched. -/
theorem RequestInv.mem_launch {s : State} {g : HeldRequest} (h : RequestInv s) (held : g ∈ s.req.held)
    (r : Request) : ⟨r, .inFlight⟩ ∈ (s.req.launch g.request.tag).held ↔
      ⟨r, .inFlight⟩ ∈ s.req.held ∨ r = g.request := by
  simp only [RequestQueue.launch, List.mem_map]
  constructor
  · rintro ⟨x, hx, launched⟩
    split at launched
    · rename_i tag
      right
      rw [← h.eq_of_tag hx held tag]
      simp only [HeldRequest.mk.injEq] at launched
      exact launched.1.symm
    · exact .inl (launched ▸ hx)
  · rintro (hr | rfl)
    · exact ⟨_, hr, by split <;> rfl⟩
    · exact ⟨g, held, by simp⟩

/-- The held requests of the launched collection are those before it, in the same order. -/
theorem RequestQueue.launch_map {α : Type} (r : RequestQueue) (tag : BitVec 8) (f : Request → α) :
    ((r.launch tag).held.map fun g => f g.request) = r.held.map fun g => f g.request := by
  simp only [RequestQueue.launch, List.map_map]
  refine List.map_congr_left fun g _ => ?_
  simp only [Function.comp]
  split <;> rfl

theorem RequestQueue.exists_launch_iff (r : RequestQueue) (tag : BitVec 8) (p : Request → Prop) :
    (∃ g ∈ (r.launch tag).held, p g.request) ↔ ∃ g ∈ r.held, p g.request := by
  have same := r.launch_map tag id
  have mem (l : List HeldRequest) : (∃ g ∈ l, p g.request) ↔ ∃ q ∈ l.map (fun g => id g.request), p q := by
    simp
  rw [mem, mem, same]

theorem RequestInv.requestPlaced {s : State} {g : HeldRequest} (h : RequestInv s) (held : g ∈ s.req.held)
    (takes : eligible s g = true) : RequestInv (requestPlaced g.request s) := by
  simp only [eligible, Bool.and_eq_true, beq_iff_eq, decide_eq_true_eq, Bool.not_eq_true'] at takes
  obtain ⟨⟨⟨⟨waiting, alone⟩, -⟩, -⟩, room⟩ := takes
  have req : (Machine.requestPlaced g.request s).req = s.req.launch g.request.tag := rfl
  have noWork : (s.bank g.request.bank).hostWork = [] := by
    refine List.eq_nil_iff_forall_not_mem.mpr fun r hand => ?_
    obtain ⟨flying, bank⟩ := (h.inHand _ r).mp hand
    simp only [RequestQueue.bankInFlight, List.any_eq_false, Bool.and_eq_true, beq_iff_eq, not_and] at alone
    exact alone _ flying rfl bank
  have work (b : Bank) : ((Machine.requestPlaced g.request s).bank b).hostWork =
      if b = g.request.bank then [g.request] else (s.bank b).hostWork := by
    rw [requestPlaced_section]
    split
    · simp only [BankSection.hostWork, List.append_eq_nil_iff] at noWork ⊢
      simp [noWork.2]
    · rfl
  constructor
  · rw [req, RequestQueue.launch_map _ _ Request.tag]
    exact h.tags
  · rw [req, RequestQueue.launch_map _ _ Request.buffer]
    exact h.buffers
  · intro i
    rw [req, RequestQueue.exists_launch_iff _ _ (fun q => q.buffer = i)]
    simpa using h.locked i
  · intro b r
    rw [work, req, h.mem_launch held]
    by_cases same : b = g.request.bank
    · subst same
      have none : ⟨r, .inFlight⟩ ∈ s.req.held → r.bank ≠ g.request.bank := fun flying bank => by
        have := (h.inHand g.request.bank r).mpr ⟨flying, bank⟩
        simp [noWork] at this
      simp only [if_true, List.mem_singleton]
      constructor
      · rintro rfl
        exact ⟨.inr rfl, rfl⟩
      · rintro ⟨flying | same, bank⟩
        · exact absurd bank (none flying)
        · exact same
    · simp only [same, if_false, h.inHand]
      constructor
      · exact fun ⟨flying, bank⟩ => ⟨.inl flying, bank⟩
      · rintro ⟨flying | rfl, bank⟩
        · exact ⟨flying, bank⟩
        · exact absurd bank.symm same
  · intro b
    rw [work]
    split
    · simp
    · exact h.single b
  · have := h.launch_inFlight_le g.request.tag
    rw [req, (requestPlaced_frame g.request s).2.2.2.2.1]
    omega

/-- An accepted request carries a new tag and names a buffer that is HOST, and fewer than 8 are held (R47 to R49). -/
theorem checkSubmit_ok {s : State} {w : Word} {q : Request} (h : checkSubmit s w = .ok q) :
    (∀ g ∈ s.req.held, g.request.tag ≠ q.tag) ∧ (s.buf.line q.buffer).state = .host := by
  unfold checkSubmit at h
  dsimp only at h
  split at h
  · cases h
  · split at h
    · cases h
    · split at h
      · cases h
      · cases h
      · split at h
        · cases h
        · split at h
          · cases h
          · rename_i fresh
            split at h
            · cases h
            · rename_i free
              cases h
              refine ⟨by simpa [formRequest] using fresh, ?_⟩
              cases host : (s.buf.line s.req.latch.buffer).state with
              | host => exact host
              | locked => exact absurd host free

theorem RequestInv.acceptRequest {s : State} {w : Word} {q : Request} (h : RequestInv s)
    (ok : checkSubmit s w = .ok q) : RequestInv (acceptRequest q s) := by
  obtain ⟨fresh, host⟩ := checkSubmit_ok ok
  have held : (Machine.acceptRequest q s).req.held = s.req.held ++ [⟨q, .waiting⟩] := rfl
  have free : ∀ g ∈ s.req.held, g.request.buffer ≠ q.buffer := fun g hg same => by
    have := (h.locked q.buffer).mpr ⟨g, hg, same⟩
    rw [host] at this
    cases this
  constructor
  · rw [held, List.map_append, List.nodup_append]
    refine ⟨h.tags, by simp, ?_⟩
    simp only [List.mem_map]
    rintro _ ⟨g, hg, rfl⟩ _ ⟨x, hx, rfl⟩
    rw [List.mem_singleton] at hx
    exact hx ▸ fresh g hg
  · rw [held, List.map_append, List.nodup_append]
    refine ⟨h.buffers, by simp, ?_⟩
    simp only [List.mem_map]
    rintro _ ⟨g, hg, rfl⟩ _ ⟨x, hx, rfl⟩
    rw [List.mem_singleton] at hx
    exact hx ▸ free g hg
  · intro i
    rw [held]
    simp only [Machine.acceptRequest, State.setBuf_buf, List.mem_append, List.mem_singleton]
    by_cases same : i = q.buffer
    · subst same
      simp only [Buffers.line_setLine_same, true_iff]
      exact ⟨_, .inr rfl, rfl⟩
    · rw [Buffers.line_setLine_ne _ _ same, h.locked]
      constructor
      · exact fun ⟨g, hg, buffer⟩ => ⟨g, .inl hg, buffer⟩
      · rintro ⟨g, hg | rfl, buffer⟩
        · exact ⟨g, hg, buffer⟩
        · exact absurd buffer.symm same
  · intro b r
    rw [acceptRequest_bank, h.inHand, held]
    simp
  · intro b
    rw [acceptRequest_bank]
    exact h.single b
  · have room := h.room
    simp only [RequestQueue.inFlight, held, List.countP_append] at room ⊢
    simpa using room

/-! ### Every step -/

theorem BankSection.hostWork_reset (k : BankSection) : (resetBank k).hostWork = [] := by
  cases phase : k.phase <;> simp [BankSection.hostWork, resetBank, phase]

@[simp] theorem warmReset_req (s : State) : (warmReset s).req = .initial := rfl
@[simp] theorem warmReset_buf (s : State) : (warmReset s).buf = s.buf.atReset := rfl
@[simp] theorem warmReset_cpl (s : State) : (warmReset s).cpl = [] := rfl

/-- With no request held, no buffer LOCKED and no bank with a request in hand. -/
theorem RequestInv.of_none {t : State} (req : t.req.held = []) (buf : ∀ i, (t.buf.line i).state = .host)
    (cpl : t.cpl = []) (work : ∀ b, (t.bank b).hostWork = []) : RequestInv t := by
  constructor <;> simp [req, buf, cpl, work, RequestQueue.inFlight]

theorem RequestInv.idleBank {s : State} {b : Bank} {op : Operation} {d : Disposition} (h : RequestInv s)
    (busy : (s.bank b).phase = .busy op d) (none : d = .discard ∨ op.request? = none) :
    RequestInv (idleBank b s) := by
  refine h.of_same (by simp) (by simp) (by simp) fun x => ?_
  rw [idleBank_section]
  split
  · rename_i same
    subst same
    rw [BankSection.hostWork_idle rfl]
    rcases none with rfl | request
    · rw [BankSection.hostWork_discard busy]
    · cases d with
      | discard => rw [BankSection.hostWork_discard busy]
      | deliver => simp [BankSection.hostWork_deliver busy, request]
  · rfl

theorem readBufData_lock (s : State) (i : BufferIdx) :
    ((readBufData s).buf.line i).state = (s.buf.line i).state := by
  unfold readBufData
  dsimp only
  split <;> rfl

theorem writeBufData_lock (w : Word) (s : State) (i : BufferIdx) :
    ((writeBufData w s).buf.line i).state = (s.buf.line i).state := by
  unfold writeBufData
  dsimp only
  split
  · by_cases same : i = s.buf.selected
    · subst same
      simp [Buffers.advance, Buffers.line, Buffers.setLine]
    · exact congrArg LineBuffer.state (Buffers.line_setLine_ne s.buf _ same)
  · rfl

theorem requestInv_keptByAll : KeptByAll RequestInv := by
  have kept : Kept RequestInv := by
    constructor
    case charge =>
      intro s h
      refine h.of_same (by simp) (by simp) (by simp) fun x => ?_
      rw [State.bank_mapBanks, chargeRefresh]
      split <;> rfl
    case grantHost =>
      intro s b q idle slot h
      refine h.of_same (by simp) (by simp) (by simp) fun x => ?_
      rw [grantHost_section]
      split
      · rename_i same
        subst same
        rw [BankSection.hostWork_deliver rfl, BankSection.hostWork_idle idle, hostOperation_request?, slot]
        rfl
      · rfl
    case grantCopy =>
      intro s b idle _ h
      refine h.of_same (by simp) (by simp) (by simp) fun x => ?_
      rw [grantCopy_section]
      split
      · split
        · rename_i same
          subst same
          rw [BankSection.hostWork_deliver rfl, BankSection.hostWork_idle idle, copyOperation_request?]
          simp
        · rfl
      · rfl
    case grantStep | grantClear =>
      intro s b _ idle _ h
      refine h.of_same (by simp) (by simp) (by simp) fun x => ?_
      simp only [grantStep_section, grantClear_section]
      split
      · rename_i same
        subst same
        rw [BankSection.hostWork_deliver rfl, BankSection.hostWork_idle idle]
        simp [Operation.request?]
      · rfl
    case grantRefresh =>
      intro s b idle h
      refine h.of_same (by simp) (by simp) (by simp) fun x => ?_
      rw [grantRefresh_section]
      split
      · rename_i same
        subst same
        rw [BankSection.hostWork_deliver rfl, BankSection.hostWork_idle idle]
        simp [Operation.request?]
      · rfl
    case discardStep =>
      intro s b _ _ _ h
      refine h.of_same (by simp) (by simp) (by simp) fun x => ?_
      rw [discardStep_section]
      split
      · rename_i same
        exact same ▸ rfl
      · rfl
    case retainBank =>
      intro s b may h
      refine h.of_same (by simp) (by simp) (by simp) fun x => ?_
      rw [retainBank_section]
      split
      · rename_i same
        subst same
        simp only [mayRetain, Bool.and_eq_true, beq_iff_eq] at may
        rw [BankSection.hostWork_retained rfl, BankSection.hostWork_idle may.1.2]
      · rfl
    case idled => exact fun s b op busy h => h.idleBank busy (.inl rfl)
    case refreshEnds => exact fun s b busy h => h.idleBank busy (.inr rfl)
    case requestEnds => exact fun s b op q o f w busy request h => h.requestEnds busy request o f w
    case stepEnds =>
      exact fun s b rows n l busy h =>
        (h.idleBank busy (.inr rfl)).of_same (by simp) (by simp) (by simp) (by simp)
    case copyEnds =>
      exact fun s b l p x n v busy h =>
        (h.idleBank busy (.inr rfl)).of_same (by simp) (by simp) (by simp) (by simp)
    case clearLineEnds =>
      intro s b row n busy h
      refine (h.idleBank busy (.inr rfl)).of_same (by simp) (by simp) (by simp) fun x => ?_
      rw [clearLineEnds_section]
      split
      · rename_i same
        exact same.1 ▸ rfl
      · rfl
    case answered => exact fun s g held takes h => h.answered held takes _ _ _
    case requestPlaced => exact fun s g held takes h => h.requestPlaced held takes
    case copyPlaced | clearPlaced =>
      intro s b _ _ h
      refine h.of_same (by simp) (by simp) (by simp) fun x => ?_
      simp only [copyPlaced_section, clearPlaced_section]
      split
      · rename_i same
        exact same ▸ rfl
      · rfl
    case stepPlaced =>
      intro s p _ h
      refine h.of_same (by simp) (by simp) (by simp) fun x => ?_
      rw [stepPlaced_section]
      split
      · rename_i same
        exact same ▸ rfl
      · rfl
    case park | withdrawStep | restartCursor =>
      intro s h
      refine h.of_same (by simp) (by simp) (by simp) fun x => ?_
      simp only [park_section, withdrawStep_section, restartCursor_section]
      split <;> rfl
    case clearBegun =>
      intro s _ _ _ h
      refine h.of_same (by simp) (by simp) (by simp) fun x => ?_
      rw [beginClear_section, withdrawStepOf_section]
      split
      · rename_i same
        subst same
        split <;> rfl
      · rfl
    case abortWaiting =>
      intro s b l _ h
      refine h.of_same (by simp) (by simp) (by simp) fun x => ?_
      rw [applyAbort_bank, withdrawCopy_section]
      split
      · rename_i same
        exact same ▸ rfl
      · rfl
    case leaving =>
      intro s _ _ h
      refine h.of_same (by simp) (by simp) (by simp) fun x => ?_
      rw [leaving_section, leaveRetained]
      split
      · rename_i retained
        rw [BankSection.hostWork_idle rfl, BankSection.hostWork_retained retained]
      · rfl
    case storeLatch | rejected => exact fun s w h => h.of_same rfl (by simp) (by simp) (by simp)
    case storeBufSelect => exact fun s w h => h.of_same (by simp) (fun _ => rfl) (by simp) (by simp)
    case accepted => exact fun s w q ok h => h.acceptRequest ok
    case popCompletion => exact fun s h => h.of_same (by simp) (by simp) (by simp [popCompletion]) (by simp)
    case readBufData => exact fun s h => h.of_same (by simp) (readBufData_lock s) (by simp) (by simp)
    case writeBufData => exact fun s w h => h.of_same (by simp) (writeBufData_lock w s) (by simp) (by simp)
    all_goals
      intros
      exact RequestInv.of_same ‹_› (by simp) (by simp) (by simp) (by simp)
  apply KeptByAll.mk kept
  case applyPower | losePower =>
    intros
    refine .of_none rfl (fun i => ?_) rfl fun b => ?_
    · simp [powerOnValues, State.reset, Buffers.line]
    · rw [State.bank_powered, powerOnValues_bank]
      simp [BankSection.initial, BankSection.hostWork]
  case warmReset =>
    intro s _
    exact .of_none rfl (by simp [Buffers.atReset, Buffers.line]) rfl
      fun b => by rw [warmReset_bank, BankSection.hostWork_reset]
  case lines =>
    intro s t keeps _ h
    obtain ⟨req, buf, cpl, banks⟩ : t.req = s.req ∧ t.buf = s.buf ∧ t.cpl = s.cpl ∧ t.banks = s.banks := by
      simp_all [keepsAllBut_iff]
    exact h.of_same (by rw [req]) (by simp [buf]) (by rw [cpl]) (by simp [State.bank_congr banks])
  case lowered =>
    rintro s b - h
    refine h.of_same (by simp) (by simp) (by simp) fun x => ?_
    rw [State.bank_setBank]
    split
    · rename_i same
      exact same ▸ rfl
    · rfl
  all_goals
    intros
    exact RequestInv.of_same ‹_› (by simp) (by simp) (by simp) (by simp)

/-- Settles O54: a request is launched into the slot of a bank with none in hand, its grant moves it into the
operation, and its completion removes it with the record that takes its place. -/
theorem stepKeepsRequestsSound : Obligations.StepKeepsRequestsSound := fun _ _ sound stepped =>
  requestInv_keptByAll.step stepped sound

end Sys2Proof.Machine
end

section
/-! PTL's step at exactly the bank of its position (R31, R141, R142). -/

namespace Sys2Proof.Machine

/-! ### The kinds of granted operations -/

theorem hostOperation_ne_scrubLine (q : Request) (rows r : Rows) (words : LineWords) (n : LineNo)
    (l : LogicalRow) : hostOperation q rows words ≠ .scrubLine r n l := fun same => by
  have := hostOperation_request? q rows words
  simp [same, Operation.request?] at this

theorem hostOperation_ne_copyLine (q : Request) (rows : Rows) (words : LineWords) (l : LogicalRow)
    (p : PhysRow) (x : SpareIdx) (n : LineNo) : hostOperation q rows words ≠ .copyLine l p x n := fun same => by
  have := hostOperation_request? q rows words
  simp [same, Operation.request?] at this

theorem hostOperation_ne_clearLine (q : Request) (rows : Rows) (words : LineWords) (p : PhysRow)
    (n : LineNo) : hostOperation q rows words ≠ .clearLine p n := fun same => by
  have := hostOperation_request? q rows words
  simp [same, Operation.request?] at this

theorem copyOperation_ne_scrubLine (e : RemapEntry) (r : Rows) (n : LineNo) (l : LogicalRow) :
    copyOperation e ≠ .scrubLine r n l := by unfold copyOperation; split <;> simp

theorem copyOperation_ne_clearLine (e : RemapEntry) (p : PhysRow) (n : LineNo) :
    copyOperation e ≠ .clearLine p n := by unfold copyOperation; split <;> simp

@[simp] theorem scrubRows_source (m : BankRemap) (p : PhysRow) (n : LineNo) : (m.scrubRows p n).source = p := by
  unfold BankRemap.scrubRows
  split
  · split <;> rfl
  · rfl

/-! ### The step and the banks -/

/-- The bank scrubs for PTL: a SCRUB LINE is in progress whose result is to be delivered. -/
def BankSection.scrubs (k : BankSection) : Prop := ∃ rows n l, k.phase = .busy (.scrubLine rows n l) .deliver

theorem StepInv.of_same {s t : State} (h : StepInv s) (step : t.ptl.step = s.ptl.step)
    (slot : ∀ b, (t.bank b).patrolSlot = (s.bank b).patrolSlot)
    (scrub : ∀ b, (t.bank b).phase = (s.bank b).phase ∨ ¬(t.bank b).scrubs ∧ ¬(s.bank b).scrubs) :
    StepInv t where
  slot b q := by rw [slot, step]; exact h.slot b q
  scrub b rows n l busy := by
    obtain same | ⟨none, -⟩ := scrub b
    · rw [step]
      exact h.scrub b rows n l (same ▸ busy)
    · exact absurd ⟨rows, n, l, busy⟩ none
  running p marked run := by
    rw [step] at run
    obtain ⟨rows, l, busy⟩ := h.running p marked run
    obtain same | ⟨-, none⟩ := scrub p.bank
    · exact ⟨rows, l, same ▸ busy⟩
    · exact absurd ⟨rows, p.line, l, busy⟩ none

theorem StepInv.of_none {t : State} (step : t.ptl.step = .none) (slot : ∀ b, (t.bank b).patrolSlot = none)
    (scrub : ∀ b, ¬(t.bank b).scrubs) : StepInv t where
  slot b q := by simp [slot, step]
  scrub b rows n l busy := absurd ⟨rows, n, l, busy⟩ (scrub b)
  running p marked run := by simp [step] at run

theorem StepInv.slot_none {s : State} (h : StepInv s) {b : Bank}
    (elsewhere : ∀ p, s.ptl.step = .waiting p → p.bank ≠ b) : (s.bank b).patrolSlot = none := by
  cases slot : (s.bank b).patrolSlot with
  | none => rfl
  | some q =>
    obtain ⟨p, waiting, bank, -⟩ := (h.slot b q).mp slot
    exact absurd bank (elsewhere p waiting)

theorem StepInv.not_scrubs {s : State} (h : StepInv s) {b : Bank}
    (elsewhere : ∀ p marked, s.ptl.step = .running p marked → p.bank ≠ b) : ¬(s.bank b).scrubs := by
  rintro ⟨rows, n, l, busy⟩
  obtain ⟨marked, run⟩ := h.scrub b rows n l busy
  exact elsewhere _ marked run rfl

theorem BankSection.not_scrubs_of_idle {k : BankSection} (idle : k.phase = .idle) : ¬k.scrubs := by
  rintro ⟨rows, n, l, busy⟩
  simp [idle] at busy

/-- A bank whose section alone changes: it scrubs neither before nor after, and its patrol slot stays. -/
theorem StepInv.of_section {s t : State} {b : Bank} {k : BankSection} (h : StepInv s)
    (step : t.ptl.step = s.ptl.step) (sections : ∀ x, t.bank x = if x = b then k else s.bank x)
    (slot : k.patrolSlot = (s.bank b).patrolSlot)
    (scrub : k.phase = (s.bank b).phase ∨ ¬k.scrubs ∧ ¬(s.bank b).scrubs) : StepInv t := by
  refine h.of_same step (fun x => ?_) fun x => ?_
  · rw [sections]
    split
    · rename_i same
      rw [slot, same]
    · rfl
  · rw [sections]
    split
    · rename_i same
      exact same ▸ scrub
    · exact .inl rfl

/-- After the outstanding step has ended or been withdrawn: the step's bank has its slot empty and no scrub. -/
theorem StepInv.ended {s t : State} {b : Bank} {k : BankSection} (h : StepInv s) (step : t.ptl.step = .none)
    (sections : ∀ x, t.bank x = if x = b then k else s.bank x) (slot : k.patrolSlot = none)
    (scrub : ¬k.scrubs) (waits : ∀ p, s.ptl.step = .waiting p → p.bank = b)
    (runs : ∀ p marked, s.ptl.step = .running p marked → p.bank = b) : StepInv t := by
  refine .of_none step (fun x => ?_) fun x => ?_
  · rw [sections]
    split
    · exact slot
    · rename_i other
      exact h.slot_none fun p waiting at_x => other (at_x ▸ waits p waiting)
  · rw [sections]
    split
    · exact scrub
    · rename_i other
      exact h.not_scrubs fun p marked run at_x => other (at_x ▸ runs p marked run)

/-- A slot that is filled is that of the waiting step. -/
theorem StepInv.waiting {s : State} {b : Bank} {q : RowLine} (h : StepInv s)
    (slot : (s.bank b).patrolSlot = some q) :
    ∃ p, s.ptl.step = .waiting p ∧ p.bank = b ∧ q = ⟨p.row, p.line⟩ := (h.slot b q).mp slot

theorem StepInv.withdrawStepAt {s : State} {p : Position} (h : StepInv s) (waiting : s.ptl.step = .waiting p) :
    StepInv (withdrawStepAt p s) := by
  refine h.ended (by simp) (withdrawStepAt_section p s) rfl ?_ (fun q w => ?_) fun q m r => ?_
  · exact h.not_scrubs (b := p.bank) (fun q m r => by simp [waiting] at r)
  · rw [waiting] at w
    cases w
    rfl
  · simp [waiting] at r

theorem StepInv.withdrawStep {s : State} (h : StepInv s) : StepInv (withdrawStep s) := by
  unfold Machine.withdrawStep
  split
  · exact h.withdrawStepAt (by assumption)
  · exact h
  · exact h

theorem StepInv.withdrawStepOf {s : State} (b : Bank) (h : StepInv s) : StepInv (withdrawStepOf b s) := by
  unfold Machine.withdrawStepOf
  split
  · split
    · exact h.withdrawStepAt (by assumption)
    · exact h
  · exact h
  · exact h

theorem StepInv.restartCursor {s : State} (h : StepInv s) : StepInv (restartCursor s) := by
  unfold Machine.restartCursor
  split
  · exact h.of_same (by simp) (by simp) (by simp)
  · exact (h.withdrawStepAt (by assumption)).of_same (by simp) (by simp) (by simp)
  · rename_i p marked run
    refine ⟨fun b q => ?_, fun b rows n l busy => ?_, fun q m r => ?_⟩
    · simpa [run] using h.slot b q
    · obtain ⟨m, same⟩ := h.scrub b rows n l busy
      rw [run] at same
      cases same
      exact ⟨true, rfl⟩
    · simp only [State.setPtl_ptl, PatrolStep.running.injEq] at r
      exact r.1 ▸ h.running p marked run

theorem StepInv.grantStep {s : State} {b : Bank} {q : RowLine} (h : StepInv s)
    (idle : (s.bank b).phase = .idle) (slot : (s.bank b).patrolSlot = some q) : StepInv (grantStep b q s) := by
  obtain ⟨p, waiting, rfl, rfl⟩ := h.waiting slot
  have step : (Machine.grantStep p.bank ⟨p.row, p.line⟩ s).ptl.step = .running p false := by
    simp [grantStep_ptl, waiting, PatrolStep.run]
  refine ⟨fun b q => ?_, fun b rows n l busy => ?_, fun q m r => ?_⟩
  · simp only [step, reduceCtorEq, false_and, exists_false, iff_false]
    rw [grantStep_section]
    split
    · simp
    · rename_i other
      rw [h.slot_none (fun p' w at_b => ?_)]
      · simp
      · rw [waiting] at w
        cases w
        exact other at_b.symm
  · rw [grantStep_section] at busy
    split at busy
    · rename_i same
      subst same
      simp only [Phase.busy.injEq, Operation.scrubLine.injEq, and_true] at busy
      obtain ⟨rfl, rfl, -⟩ := busy
      exact ⟨false, by rw [step, scrubRows_source]⟩
    · exact absurd ⟨rows, n, l, busy⟩ (h.not_scrubs fun p' m r => by simp [waiting] at r)
  · rw [step] at r
    cases r
    exact ⟨_, _, by rw [grantStep_section]; simp; exact ⟨rfl, rfl⟩⟩

theorem StepInv.discardStep {s : State} {b : Bank} {q : RowLine} (h : StepInv s)
    (idle : (s.bank b).phase = .idle) (slot : (s.bank b).patrolSlot = some q) : StepInv (discardStep b s) := by
  obtain ⟨p, waiting, rfl, rfl⟩ := h.waiting slot
  refine h.ended (by simp [Machine.discardStep]) (discardStep_section p.bank s) rfl
    (BankSection.not_scrubs_of_idle idle) (fun p' w => ?_) fun p' m r => ?_
  · rw [waiting] at w
    cases w
    rfl
  · simp [waiting] at r

theorem StepInv.stepEnds {s : State} {b : Bank} {rows : Rows} {n : LineNo} {l : LogicalRow} (h : StepInv s)
    (busy : delivers s b (.scrubLine rows n l)) : StepInv (stepEnds (idleBank b s)) := by
  obtain ⟨marked, run⟩ := h.scrub b rows n l busy
  refine h.ended (by simp) (fun x => (stepEnds_bank _ x).trans (idleBank_section b s x))
    (h.slot_none fun p w => by simp [run] at w) (BankSection.not_scrubs_of_idle rfl) (fun p w => ?_)
    fun p m r => ?_
  · simp [run] at w
  · rw [run] at r
    cases r
    rfl

theorem StepInv.stepPlaced {s : State} (p : Position) (h : StepInv s) (none : s.ptl.step = .none) :
    StepInv (stepPlaced p s) := by
  have slots (b : Bank) : (s.bank b).patrolSlot = Option.none := h.slot_none fun p w => by simp [none] at w
  have scrubs (b : Bank) : ¬(s.bank b).scrubs := h.not_scrubs fun p m r => by simp [none] at r
  refine ⟨fun b q => ?_, fun b rows n l busy => ?_, fun q m r => by simp at r⟩
  · rw [stepPlaced_section]
    by_cases same : b = p.bank
    · subst same
      simp [eq_comm]
    · simp [same, slots, Ne.symm same]
  · rw [stepPlaced_section] at busy
    split at busy
    · rename_i same
      exact absurd ⟨rows, n, l, busy⟩ (same ▸ scrubs b)
    · exact absurd ⟨rows, n, l, busy⟩ (scrubs b)

/-- An operation other than a scrub leaves its bank IDLE without an effect on the step. -/
theorem StepInv.idleBank {s : State} {b : Bank} {op : Operation} {d : Disposition} (h : StepInv s)
    (busy : (s.bank b).phase = .busy op d) (none : d = .discard ∨ ∀ rows n l, op ≠ .scrubLine rows n l) :
    StepInv (idleBank b s) := by
  refine h.of_section (by simp) (idleBank_section b s) rfl
    (.inr ⟨BankSection.not_scrubs_of_idle rfl, fun ⟨rows, n, l, scrub⟩ => ?_⟩)
  rw [busy] at scrub
  simp only [Phase.busy.injEq] at scrub
  rcases none with rfl | none
  · cases scrub.2
  · exact none _ _ _ scrub.1

theorem stepInv_keptByAll : KeptByAll StepInv := by
  have kept : Kept StepInv := by
    constructor
    case charge =>
      intro s h
      refine h.of_same (by simp) (fun x => ?_) fun x => .inl ?_ <;>
      · rw [State.bank_mapBanks, chargeRefresh]
        split <;> rfl
    case grantHost =>
      exact fun s b q idle slot h => h.of_section (by simp) (grantHost_section b q s) rfl
        (.inr ⟨by simp [BankSection.scrubs, hostOperation_ne_scrubLine], BankSection.not_scrubs_of_idle idle⟩)
    case grantCopy =>
      intro s b idle _ h
      refine h.of_same (by simp) (fun x => ?_) fun x => ?_
      · rw [grantCopy_section]
        split
        · split
          · rename_i same
            rw [same]
          · rfl
        · rfl
      · rw [grantCopy_section]
        split
        · split
          · rename_i same
            exact .inr ⟨by simp [BankSection.scrubs, copyOperation_ne_scrubLine],
              same ▸ BankSection.not_scrubs_of_idle idle⟩
          · exact .inl rfl
        · exact .inl rfl
    case grantStep => exact fun s b q idle slot h => h.grantStep idle slot
    case grantClear =>
      exact fun s b q idle slot h => h.of_section (by simp) (grantClear_section b q s) rfl
        (.inr ⟨by simp [BankSection.scrubs], BankSection.not_scrubs_of_idle idle⟩)
    case grantRefresh =>
      exact fun s b idle h => h.of_section (by simp) (grantRefresh_section b s) rfl
        (.inr ⟨by simp [BankSection.scrubs], BankSection.not_scrubs_of_idle idle⟩)
    case discardStep => exact fun s b q idle slot h => h.discardStep idle slot
    case retainBank =>
      intro s b may h
      simp only [mayRetain, Bool.and_eq_true, beq_iff_eq] at may
      exact h.of_section (by simp) (retainBank_section b s) rfl
        (.inr ⟨by simp [BankSection.scrubs], BankSection.not_scrubs_of_idle may.1.2⟩)
    case idled => exact fun s b op busy h => h.idleBank busy (.inl rfl)
    case refreshEnds => exact fun s b busy h => h.idleBank busy (.inr (by simp))
    case requestEnds =>
      intro s b op q o f w busy request h
      refine (h.idleBank busy (.inr fun rows n l same => ?_)).of_same (by simp) (by simp) (by simp)
      simp [same, Operation.request?] at request
    case stepEnds => exact fun s b rows n l busy h => h.stepEnds busy
    case copyEnds =>
      exact fun s b l p x n v busy h =>
        (h.idleBank busy (.inr (by simp))).of_same (by simp) (by simp) (by simp)
    case clearLineEnds =>
      intro s b row n busy h
      refine (h.idleBank busy (.inr (by simp))).of_same (by simp) (fun x => ?_) fun x => .inl ?_ <;>
      · rw [clearLineEnds_section]
        split
        · rename_i same
          rw [same.1]
        · rfl
    case requestPlaced =>
      exact fun s g _ _ h => h.of_section (by simp) (requestPlaced_section g.request s) rfl (.inl rfl)
    case copyPlaced => exact fun s b l _ h => h.of_section (by simp) (copyPlaced_section b l s) rfl (.inl rfl)
    case clearPlaced => exact fun s b p _ h => h.of_section (by simp) (clearPlaced_section b p s) rfl (.inl rfl)
    case stepPlaced => exact fun s p none h => h.stepPlaced p none
    case park =>
      intro s h
      refine h.of_same (by simp) (fun x => ?_) fun x => .inl ?_ <;>
      · rw [park_section]
        split <;> rfl
    case withdrawStep => exact fun s h => h.withdrawStep
    case restartCursor => exact fun s h => h.restartCursor
    case clearBegun =>
      intro s _ _ _ h
      have begun : StepInv (beginCommand .clearBank s) := h.of_same (by simp) (by simp) (by simp)
      refine (begun.withdrawStepOf s.mnt.arg.bank).of_same (by simp) (fun x => ?_) fun x => .inl ?_ <;>
      · rw [beginClear_section]
        split
        · rename_i same
          rw [same]
        · rename_i other
          simp [withdrawStepOf_section, other]
    case abortWaiting =>
      exact fun s b l _ h => h.of_section (by simp)
        (fun x => (applyAbort_bank _ _ _ x).trans (withdrawCopy_section b s x)) rfl (.inl rfl)
    case leaving =>
      intro s _ _ h
      refine h.of_same (by simp) (fun x => ?_) fun x => ?_
      · rw [leaving_section, leaveRetained]
        split <;> rfl
      · rw [leaving_section, leaveRetained]
        split
        · rename_i retained
          exact .inr ⟨by simp [BankSection.scrubs], by simp [BankSection.scrubs, retained]⟩
        · exact .inl rfl
    case storeInterval => exact fun s w h => h.of_same rfl (by simp) (by simp)
    all_goals
      intros
      exact StepInv.of_same ‹_› (by simp) (by simp) (by simp)
  apply KeptByAll.mk kept
  case applyPower | losePower =>
    intros
    refine .of_none rfl (fun b => ?_) fun b => ?_ <;>
    · rw [State.bank_powered, powerOnValues_bank]
      simp [BankSection.initial, BankSection.scrubs]
  case warmReset =>
    intro s _
    refine .of_none rfl (fun b => by rw [warmReset_bank]; rfl) fun b => ?_
    rw [warmReset_bank]
    cases phase : (s.bank b).phase <;> simp [BankSection.scrubs, resetBank, phase]
  case lines =>
    intro s t keeps _ h
    obtain ⟨ptl, banks⟩ : t.ptl = s.ptl ∧ t.banks = s.banks := by simp_all [keepsAllBut_iff]
    exact h.of_same (by rw [ptl]) (by simp [State.bank_congr banks]) (by simp [State.bank_congr banks])
  case lowered => exact fun s b _ h => h.of_section (by simp) (fun x => s.bank_setBank ..) rfl (.inl rfl)
  all_goals
    intros
    exact StepInv.of_same ‹_› (by simp) (by simp) (by simp)

end Sys2Proof.Machine
end

section
/-! The remap table: what each claim makes of the entry of a row and of a spare, and that entries and spares
stay in agreement (5.1, 5.2, 5.5). -/

namespace Sys2Proof.Machine

/-! ### Agreement by the entry of each row -/

namespace BankRemap

/-- With one entry for each row, the entries are those found by their rows (R80). -/
theorem mem_entries_iff {m : BankRemap} (rows : (m.entries.map RemapEntry.row).Nodup) {e : RemapEntry} :
    e ∈ m.entries ↔ m.entry? e.row = some e :=
  ⟨entry?_of_mem rows, mem_of_entry?⟩

theorem named_iff {m : BankRemap} (rows : (m.entries.map RemapEntry.row).Nodup) :
    (m.entries.flatMap RemapEntry.spares).Nodup ↔
      (∀ e ∈ m.entries, e.spares.Nodup) ∧
        ∀ e ∈ m.entries, ∀ d ∈ m.entries, ∀ i ∈ e.spares, i ∈ d.spares → e = d := by
  rw [List.nodup_flatMap]
  refine and_congr_right fun _ => ⟨fun apart e he d hd i hi hj => ?_, fun apart => ?_⟩
  · by_contra other
    have : Std.Symm (Function.onFun List.Disjoint RemapEntry.spares) := ⟨fun _ _ h => h.symm⟩
    exact List.Pairwise.forall apart he hd other hi hj
  · refine (List.Nodup.of_map _ rows).pairwise_of_forall_ne fun e he d hd other => ?_
    exact fun i hi hj => other (apart e he d hd i hi hj)

/-- A FREE spare is named by no entry (R81). -/
theorem Agrees.not_mem_of_free {m : BankRemap} (h : m.Agrees) {i : SpareIdx} (free : m.spare i = .free)
    {e : RemapEntry} (he : e ∈ m.entries) : i ∉ e.spares := fun hi => by
  simp only [RemapEntry.spares, List.mem_append, Option.mem_toList] at hi
  rcases hi with current | target
  · have := (h.inUse i).mpr ⟨e, he, current⟩
    simp [free] at this
  · have := (h.target i).mpr ⟨e, he, target⟩
    simp [free] at this

/-- Only one entry names a spare (R81). -/
theorem Agrees.eq_of_spare {m : BankRemap} (h : m.Agrees) {e d : RemapEntry} (he : e ∈ m.entries)
    (hd : d ∈ m.entries) {i : SpareIdx} (hi : i ∈ e.spares) (hj : i ∈ d.spares) : e = d :=
  ((named_iff h.rows).mp h.named).2 e he d hd i hi hj

theorem Agrees.spares_nodup {m : BankRemap} (h : m.Agrees) {e : RemapEntry} (he : e ∈ m.entries) :
    e.spares.Nodup := ((named_iff h.rows).mp h.named).1 e he

/-- The entry of one row replaced by `new`, which names only spares that were FREE or its own, and the spares
changed with it: the table still agrees. -/
theorem Agrees.setEntry {m m' : BankRemap} (h : m.Agrees) {l : LogicalRow} {new : Option RemapEntry}
    (rows : (m'.entries.map RemapEntry.row).Nodup)
    (entry : ∀ k, m'.entry? k = if k = l then new else m.entry? k)
    (names : ∀ e, new = some e → e.spares.Nodup ∧
      ∀ i ∈ e.spares, m.spare i = .free ∨ ∃ d, m.entry? l = some d ∧ i ∈ d.spares)
    (inUse : ∀ i, m'.spare i = .inUse ↔ (∃ e, new = some e ∧ e.current = some i) ∨
      m.spare i = .inUse ∧ ∀ d, m.entry? l = some d → d.current ≠ some i)
    (target : ∀ i, m'.spare i = .target ↔ (∃ e, new = some e ∧ e.target? = some i) ∨
      m.spare i = .target ∧ ∀ d, m.entry? l = some d → d.target? ≠ some i) : m'.Agrees := by
  have member (e : RemapEntry) : e ∈ m'.entries ↔ new = some e ∧ e.row = l ∨ e.row ≠ l ∧ e ∈ m.entries := by
    rw [mem_entries_iff rows, entry]
    by_cases same : e.row = l
    · simp [same]
    · simp [same, mem_entries_iff h.rows]
  have fresh (e d : RemapEntry) (he : new = some e) (hd : d ∈ m.entries) (other : d.row ≠ l) (i : SpareIdx)
      (hi : i ∈ e.spares) : i ∉ d.spares := fun hj => by
    obtain free | ⟨x, old, hx⟩ := (names e he).2 i hi
    · exact h.not_mem_of_free free hd hj
    · have := h.eq_of_spare (mem_of_entry? old) hd hx hj
      exact other (this ▸ row_of_entry? old)
  have newRow (e : RemapEntry) (he : new = some e) : e.row = l :=
    row_of_entry? (m := m') (by rw [entry, if_pos rfl, he])
  have carries (p : RemapEntry → Prop) : (∃ e ∈ m'.entries, p e) ↔
      (∃ e, new = some e ∧ p e) ∨ ∃ e ∈ m.entries, e.row ≠ l ∧ p e := by
    simp only [member]
    constructor
    · rintro ⟨e, ⟨he, -⟩ | ⟨other, he⟩, pe⟩
      · exact .inl ⟨e, he, pe⟩
      · exact .inr ⟨e, he, other, pe⟩
    · rintro (⟨e, he, pe⟩ | ⟨e, he, other, pe⟩)
      · exact ⟨e, .inl ⟨he, newRow e he⟩, pe⟩
      · exact ⟨e, .inr ⟨other, he⟩, pe⟩
  refine ⟨rows, (named_iff rows).mpr ⟨fun e he => ?_, fun e he d hd i hi hj => ?_⟩, fun i => ?_, fun i => ?_⟩
  · obtain ⟨he, -⟩ | ⟨-, he⟩ := (member e).mp he
    · exact (names e he).1
    · exact h.spares_nodup he
  · obtain ⟨he', -⟩ | ⟨other, he'⟩ := (member e).mp he <;> obtain ⟨hd', -⟩ | ⟨other', hd'⟩ := (member d).mp hd
    · exact Option.some.inj (he'.symm.trans hd')
    · exact absurd hj (fresh e d he' hd' other' i hi)
    · exact absurd hi (fresh d e hd' he' other i hj)
    · exact h.eq_of_spare he' hd' hi hj
  · rw [inUse, carries]
    refine or_congr_right ⟨fun ⟨used, notOld⟩ => ?_, fun ⟨e, he, other, current⟩ => ?_⟩
    · obtain ⟨e, he, current⟩ := (h.inUse i).mp used
      exact ⟨e, he, fun same => notOld e (same ▸ entry?_of_mem h.rows he) current, current⟩
    · refine ⟨(h.inUse i).mpr ⟨e, he, current⟩, fun d old current' => other ?_⟩
      rw [h.eq_of_spare he (mem_of_entry? old) (i := i) (by simp [RemapEntry.spares, current])
        (by simp [RemapEntry.spares, current'])]
      exact row_of_entry? old
  · rw [target, carries]
    refine or_congr_right ⟨fun ⟨used, notOld⟩ => ?_, fun ⟨e, he, other, aims⟩ => ?_⟩
    · obtain ⟨e, he, aims⟩ := (h.target i).mp used
      exact ⟨e, he, fun same => notOld e (same ▸ entry?_of_mem h.rows he) aims, aims⟩
    · refine ⟨(h.target i).mpr ⟨e, he, aims⟩, fun d old aims' => other ?_⟩
      rw [h.eq_of_spare he (mem_of_entry? old) (i := i) (by simp [RemapEntry.spares, aims])
        (by simp [RemapEntry.spares, aims'])]
      exact row_of_entry? old

/-! ### Entries and spares after each claim (R89 to R94, R161) -/

@[simp] theorem rows_update (m : BankRemap) (e : RemapEntry) :
    (m.update e).entries.map RemapEntry.row = m.entries.map RemapEntry.row := by
  simp only [update, List.map_map]
  refine List.map_congr_left fun d _ => ?_
  simp only [Function.comp]
  split
  · rename_i same
    exact same.symm
  · rfl

theorem rows_insert {m : BankRemap} {e : RemapEntry} (rows : (m.entries.map RemapEntry.row).Nodup)
    (new : m.entry? e.row = none) : ((m.insert e).entries.map RemapEntry.row).Nodup := by
  simp only [insert, List.map_append, List.map_cons, List.map_nil, List.nodup_append]
  refine ⟨rows, by simp, fun k hk j hj => ?_⟩
  obtain ⟨d, hd, rfl⟩ := List.mem_map.mp hk
  rw [List.mem_singleton] at hj
  exact hj ▸ entry?_eq_none_iff.mp new d hd

theorem rows_remove {m : BankRemap} (rows : (m.entries.map RemapEntry.row).Nodup) (l : LogicalRow) :
    ((m.remove l).entries.map RemapEntry.row).Nodup := (List.filter_sublist.map _).nodup rows

/-- The update of a row that has an entry. -/
theorem entry?_update_of_entry? {m : BankRemap} {e d : RemapEntry} {l : LogicalRow} (old : m.entry? l = some d)
    (row : e.row = l) (k : LogicalRow) : (m.update e).entry? k = if k = l then some e else m.entry? k := by
  rw [entry?_update, row]
  split
  · rename_i same
    rw [same, old]
    rfl
  · rfl

/-- The insertion of a row that has none. -/
theorem entry?_insert_of_none {m : BankRemap} {e : RemapEntry} {l : LogicalRow} (none : m.entry? l = none)
    (row : e.row = l) (k : LogicalRow) : (m.insert e).entry? k = if k = l then some e else m.entry? k := by
  rw [entry?_insert, row]
  by_cases same : k = l
  · simp [same, none]
  · simp [same, Ne.symm same]

theorem entry?_create (m : BankRemap) (l : LogicalRow) (t : SpareIdx) (k : LogicalRow) :
    (m.create l t).entry? k = if k = l then
      some (match m.entry? l with
        | none => ⟨l, .pending none t 0 0, .volatile⟩
        | some e => { e with state := .pending e.current t 0 0 })
    else m.entry? k := by
  unfold create
  cases old : m.entry? l with
  | none => exact entry?_insert_of_none (m := m.setSpare t .target) old (by rfl) k
  | some e =>
    have row := row_of_entry? old
    exact entry?_update_of_entry? (m := m.setSpare t .target) old (by exact row) k

theorem spare_create (m : BankRemap) (l : LogicalRow) (t i : SpareIdx) :
    (m.create l t).spare i = if i = t then .target else m.spare i := by
  unfold create
  split
  · rw [spare_insert, spare_setSpare]
  · rw [spare_update, spare_setSpare]

theorem entry?_advance {m : BankRemap} {e : RemapEntry} {c : Option SpareIdx} {t : SpareIdx} {u : LineNo}
    {r : Fin 4} (old : m.entry? e.row = some e) (state : e.state = .pending c t u r) (n : LineNo)
    (k : LogicalRow) : (m.advance e n).entry? k =
      if k = e.row then some { e with state := .pending c t (n + 1) r } else m.entry? k := by
  simp only [advance, state]
  exact entry?_update_of_entry? old (by rfl) k

theorem spare_advance (m : BankRemap) (e : RemapEntry) (n : LineNo) (i : SpareIdx) :
    (m.advance e n).spare i = m.spare i := by
  unfold advance
  split <;> rfl

theorem entries_commitSpares (m : BankRemap) (c : Option SpareIdx) (t : SpareIdx) :
    (m.commitSpares c t).entries = m.entries := by cases c <;> rfl

theorem entry?_commitSpares (m : BankRemap) (c : Option SpareIdx) (t : SpareIdx) (k : LogicalRow) :
    (m.commitSpares c t).entry? k = m.entry? k := by simp [entry?, entries_commitSpares]

theorem spare_commitSpares (m : BankRemap) (c : Option SpareIdx) (t i : SpareIdx) :
    (m.commitSpares c t).spare i =
      if i = t then .inUse else if c = some i then .retired else m.spare i := by
  cases c with
  | none => simp [commitSpares, spare_setSpare]
  | some o => simp [commitSpares, spare_setSpare, eq_comm]

theorem entry?_commit {m : BankRemap} {e : RemapEntry} {c : Option SpareIdx} {t : SpareIdx} {u : LineNo}
    {r : Fin 4} (old : m.entry? e.row = some e) (state : e.state = .pending c t u r) (k : LogicalRow) :
    (m.commit e).entry? k = if k = e.row then some ⟨e.row, .active t, .volatile⟩ else m.entry? k := by
  simp only [commit, state]
  have kept : (m.commitSpares c t).entry? e.row = some e := by rw [entry?_commitSpares, old]
  rw [← entry?_commitSpares m c t k]
  exact entry?_update_of_entry? kept (by rfl) k

theorem spare_commit {m : BankRemap} {e : RemapEntry} {c : Option SpareIdx} {t : SpareIdx} {u : LineNo}
    {r : Fin 4} (state : e.state = .pending c t u r) (i : SpareIdx) :
    (m.commit e).spare i = if i = t then .inUse else if c = some i then .retired else m.spare i := by
  simp only [commit, state, spare_update, spare_commitSpares]

/-- What the row has after a revert: its spare as before, or no entry (R93). -/
def reverted (e : RemapEntry) : Option RemapEntry := e.current.map fun c => { e with state := .active c }

theorem entry?_revert {m : BankRemap} {e : RemapEntry} {c : Option SpareIdx} {t : SpareIdx} {u : LineNo}
    {r : Fin 4} (old : m.entry? e.row = some e) (state : e.state = .pending c t u r) (v : SpareState)
    (k : LogicalRow) : (m.revert e v).entry? k = if k = e.row then reverted e else m.entry? k := by
  cases c with
  | none =>
    simp only [revert, state, entry?_remove, entry?_setSpare, reverted, RemapEntry.current]
    rfl
  | some c =>
    simp only [revert, state, reverted, RemapEntry.current, Option.map_some]
    exact entry?_update_of_entry? (m := m.setSpare t v) old (by rfl) k

theorem spare_revert {m : BankRemap} {e : RemapEntry} {c : Option SpareIdx} {t : SpareIdx} {u : LineNo}
    {r : Fin 4} (state : e.state = .pending c t u r) (v : SpareState) (i : SpareIdx) :
    (m.revert e v).spare i = if i = t then v else m.spare i := by
  cases c with
  | none => simp [revert, state, spare_setSpare]
  | some c => simp [revert, state, spare_setSpare]

theorem entry?_restart {m : BankRemap} {e : RemapEntry} {c : Option SpareIdx} {t : SpareIdx} {u : LineNo}
    {r : Fin 4} (old : m.entry? e.row = some e) (state : e.state = .pending c t u r) (t' : SpareIdx)
    (k : LogicalRow) : (m.restart e t').entry? k =
      if k = e.row then some { e with state := .pending c t' 0 (r + 1) } else m.entry? k := by
  simp only [restart, state]
  exact entry?_update_of_entry? (m := (m.setSpare t .retired).setSpare t' .target) old (by rfl) k

theorem spare_restart {m : BankRemap} {e : RemapEntry} {c : Option SpareIdx} {t : SpareIdx} {u : LineNo}
    {r : Fin 4} (state : e.state = .pending c t u r) (t' i : SpareIdx) :
    (m.restart e t').spare i = if i = t' then .target else if i = t then .retired else m.spare i := by
  simp only [restart, state, spare_update, spare_setSpare]

theorem entry?_makePersistent (m : BankRemap) (l k : LogicalRow) :
    (m.makePersistent l).entry? k =
      if k = l then (m.entry? l).map fun e => { e with origin := .persistent } else m.entry? k := by
  unfold makePersistent
  cases old : m.entry? l with
  | none =>
    by_cases same : k = l
    · simp [same, old]
    · simp [same]
  | some e =>
    have row := row_of_entry? old
    exact entry?_update_of_entry? old (by exact row) k

theorem spare_makePersistent (m : BankRemap) (l : LogicalRow) (i : SpareIdx) :
    (m.makePersistent l).spare i = m.spare i := by
  unfold makePersistent
  split <;> rfl

theorem entry?_load {m : BankRemap} {i : SpareIdx} (free : m.spare i = .free) (l k : LogicalRow) :
    (m.load l i).entry? k = if k = l then some ⟨l, .active i, .persistent⟩ else m.entry? k := by
  simp only [load, free, if_true]
  cases old : m.entry? l with
  | none => exact entry?_insert_of_none (m := m.setSpare i .inUse) old (by rfl) k
  | some e =>
    have kept : (m.commitSpares e.current i).entry? l = some e := by rw [entry?_commitSpares, old]
    rw [← entry?_commitSpares m e.current i k]
    exact entry?_update_of_entry? kept (by rfl) k

theorem spare_load {m : BankRemap} {i : SpareIdx} (free : m.spare i = .free) (l : LogicalRow) (j : SpareIdx) :
    (m.load l i).spare j = if j = i then .inUse
      else if (m.entry? l).bind RemapEntry.current = some j then .retired else m.spare j := by
  simp only [load, free, if_true]
  cases m.entry? l with
  | none => simp [spare_setSpare]
  | some e => simp only [spare_update, spare_commitSpares, Option.bind_some]

end BankRemap

end Sys2Proof.Machine
end

section
/-! Remap entries, spare states and the migration engine in agreement (R80, R81, R89, R120). -/

namespace Sys2Proof.Machine

@[simp] theorem RemapEntry.current_active (l : LogicalRow) (c : SpareIdx) (o : Origin) :
    RemapEntry.current ⟨l, .active c, o⟩ = some c := rfl
@[simp] theorem RemapEntry.target?_active (l : LogicalRow) (c : SpareIdx) (o : Origin) :
    RemapEntry.target? ⟨l, .active c, o⟩ = none := rfl
@[simp] theorem RemapEntry.current_pending (l : LogicalRow) (c : Option SpareIdx) (t : SpareIdx) (u : LineNo)
    (r : Fin 4) (o : Origin) : RemapEntry.current ⟨l, .pending c t u r, o⟩ = c := rfl
@[simp] theorem RemapEntry.target?_pending (l : LogicalRow) (c : Option SpareIdx) (t : SpareIdx) (u : LineNo)
    (r : Fin 4) (o : Origin) : RemapEntry.target? ⟨l, .pending c t u r, o⟩ = some t := rfl

/-- An entry that is not PENDING has no target (Table 5-1). -/
theorem RemapEntry.target?_of_active {e : RemapEntry} (h : e.isPending = false) : e.target? = none := by
  rcases e with ⟨row, c | ⟨c, t, u, r⟩, o⟩
  · rfl
  · cases h

theorem RemapEntry.isPending_iff {e : RemapEntry} :
    e.isPending = true ↔ ∃ c t u r, e.state = .pending c t u r := by
  rcases e with ⟨row, c | ⟨c, t, u, r⟩, o⟩ <;> simp [RemapEntry.isPending]

/-! ### Every claim keeps the agreement of a bank's table -/

namespace BankRemap.Agrees

variable {m : BankRemap}

theorem create (h : m.Agrees) {l : LogicalRow} {t : SpareIdx} (free : m.spare t = .free)
    (rest : ∀ e, m.entry? l = some e → e.isPending = false) : (m.create l t).Agrees := by
  have rows : ((m.create l t).entries.map RemapEntry.row).Nodup := by
    unfold BankRemap.create
    split
    · rename_i none
      exact rows_insert (m := m.setSpare t .target) h.rows (by exact none)
    · rw [rows_update]
      exact h.rows
  refine h.setEntry rows (entry?_create m l t) ?_ (fun i => ?_) fun i => ?_
  · intro e he
    cases old : m.entry? l with
    | none =>
      simp only [old, Option.some.injEq] at he
      subst he
      simp [RemapEntry.spares, RemapEntry.current, RemapEntry.target?, free]
    | some d =>
      simp only [old, Option.some.injEq] at he
      subst he
      have apart : d.current ≠ some t := fun current => by
        have used := (h.inUse t).mpr ⟨d, mem_of_entry? old, current⟩
        simp [free] at used
      cases current : d.current with
      | none => simp [RemapEntry.spares, RemapEntry.current, RemapEntry.target?, free]
      | some c =>
        have : c ≠ t := fun same => apart (same ▸ current)
        simp [RemapEntry.spares, free, this, current]
  · rw [spare_create]
    cases old : m.entry? l with
    | none => by_cases same : i = t <;> simp [same, RemapEntry.current, free]
    | some d =>
      by_cases same : i = t
      · subst same
        have := fun c => (h.inUse i).mpr ⟨d, mem_of_entry? old, c⟩
        simpa [free, RemapEntry.current] using this
      · have := fun c => (h.inUse i).mpr ⟨d, mem_of_entry? old, c⟩
        simp only [same, if_false, Option.some.injEq, exists_eq_left', forall_eq']
        tauto
  · rw [spare_create]
    cases old : m.entry? l with
    | none =>
      by_cases same : i = t
      · simp [same]
      · simp [same, Ne.symm same]
    | some d =>
      have none := RemapEntry.target?_of_active (rest d old)
      by_cases same : i = t
      · simp [same, RemapEntry.target?]
      · simp only [same, if_false, Option.some.injEq, exists_eq_left', forall_eq', none]
        simp [RemapEntry.target?, Ne.symm same]

/-- The spares of a PENDING entry: its current one IN_USE, its target TARGET, and they differ. -/
theorem of_pending (h : m.Agrees) {e : RemapEntry} {c : Option SpareIdx} {t : SpareIdx} {u : LineNo} {r : Fin 4}
    (old : m.entry? e.row = some e) (state : e.state = .pending c t u r) :
    m.spare t = .target ∧ ∀ i, c = some i → m.spare i = .inUse ∧ i ≠ t := by
  have target : m.spare t = .target :=
    (h.target t).mpr ⟨e, mem_of_entry? old, by simp [RemapEntry.target?, state]⟩
  refine ⟨target, fun i hi => ?_⟩
  have used : m.spare i = .inUse :=
    (h.inUse i).mpr ⟨e, mem_of_entry? old, by simp [RemapEntry.current, state, hi]⟩
  exact ⟨used, fun same => by simp [same, target] at used⟩

theorem advance (h : m.Agrees) {e : RemapEntry} {c : Option SpareIdx} {t : SpareIdx} {u : LineNo} {r : Fin 4}
    (old : m.entry? e.row = some e) (state : e.state = .pending c t u r) (n : LineNo) :
    (m.advance e n).Agrees := by
  obtain ⟨target, apart⟩ := h.of_pending old state
  refine h.setEntry (by simpa [BankRemap.advance, state] using h.rows) (entry?_advance old state n) ?_
    (fun i => ?_) fun i => ?_
  · rintro d hd
    cases hd
    have same := h.spares_nodup (mem_of_entry? old)
    exact ⟨by simpa [RemapEntry.spares, RemapEntry.current, RemapEntry.target?, state] using same,
      fun i hi => .inr ⟨e, old, by
        simpa [RemapEntry.spares, RemapEntry.current, RemapEntry.target?, state] using hi⟩⟩
  · rw [spare_advance]
    simp only [Option.some.injEq, exists_eq_left', old, forall_eq', RemapEntry.current, state]
    exact ⟨fun used => (em (c = some i)).imp id fun other => ⟨used, other⟩,
      fun hi => hi.elim (fun current => (apart i current).1) And.left⟩
  · rw [spare_advance]
    simp only [Option.some.injEq, exists_eq_left', old, forall_eq', RemapEntry.target?, state]
    exact ⟨fun used => (em (t = i)).imp id fun other => ⟨used, fun h => other (Option.some.inj h)⟩,
      fun hi => hi.elim (fun same => same ▸ target) And.left⟩

theorem commit (h : m.Agrees) {e : RemapEntry} {c : Option SpareIdx} {t : SpareIdx} {u : LineNo} {r : Fin 4}
    (old : m.entry? e.row = some e) (state : e.state = .pending c t u r) : (m.commit e).Agrees := by
  obtain ⟨target, apart⟩ := h.of_pending old state
  have rows : ((m.commit e).entries.map RemapEntry.row).Nodup := by
    simp only [BankRemap.commit, state, rows_update, entries_commitSpares]
    exact h.rows
  refine h.setEntry rows (entry?_commit old state) ?_ (fun i => ?_) fun i => ?_
  · rintro d hd
    cases hd
    simp [RemapEntry.spares, RemapEntry.current, RemapEntry.target?, old, state]
  · rw [spare_commit state]
    simp only [Option.some.injEq, exists_eq_left', old, forall_eq', RemapEntry.current, state]
    by_cases same : i = t
    · simp [same]
    · by_cases current : c = some i <;> simp [same, current, Ne.symm same]
  · rw [spare_commit state]
    simp only [Option.some.injEq, exists_eq_left', old, forall_eq', RemapEntry.target?, state]
    by_cases same : i = t
    · simp [same]
    · by_cases current : c = some i
      · simp [same, current, (apart i current).1]
      · simp [same, current, Ne.symm same]

theorem revert (h : m.Agrees) {e : RemapEntry} {c : Option SpareIdx} {t : SpareIdx} {u : LineNo} {r : Fin 4}
    (old : m.entry? e.row = some e) (state : e.state = .pending c t u r) {v : SpareState}
    (idle : v = .free ∨ v = .retired) : (m.revert e v).Agrees := by
  obtain ⟨target, apart⟩ := h.of_pending old state
  have unused : v ≠ .inUse ∧ v ≠ .target := by rcases idle with rfl | rfl <;> simp
  have rows : ((m.revert e v).entries.map RemapEntry.row).Nodup := by
    cases c with
    | none =>
      simp only [BankRemap.revert, state]
      exact rows_remove (m := m.setSpare t v) h.rows _
    | some c =>
      simp only [BankRemap.revert, state, rows_update]
      exact h.rows
  refine h.setEntry rows (entry?_revert old state v) ?_ (fun i => ?_) fun i => ?_
  · rintro d hd
    cases c with
    | none => simp [reverted, RemapEntry.current, state] at hd
    | some c =>
      simp only [reverted, RemapEntry.current, state, Option.map_some, Option.some.injEq] at hd
      subst hd
      simp [RemapEntry.spares, RemapEntry.current, RemapEntry.target?, old, state]
  · rw [spare_revert state]
    simp only [old, Option.some.injEq, forall_eq']
    by_cases same : i = t
    · subst same
      have : e.current ≠ some i := fun hc => (apart i (by simpa [RemapEntry.current, state] using hc)).2 rfl
      cases c <;> simp_all [reverted, RemapEntry.current]
    · cases c with
      | none => simp [same, reverted, RemapEntry.current, state]
      | some c =>
        have used := (apart c rfl).1
        by_cases current : c = i
        · subst current
          simp [same, reverted, RemapEntry.current, state, used]
        · simp [same, reverted, RemapEntry.current, state, current]
  · rw [spare_revert state]
    simp only [old, Option.some.injEq, forall_eq']
    have none : ¬∃ d, reverted e = some d ∧ d.target? = some i := by
      rintro ⟨d, hd, aims⟩
      cases c <;> simp [reverted, RemapEntry.current, state] at hd
      subst hd
      simp [RemapEntry.target?] at aims
    have own : e.target? = some t := by simp [RemapEntry.target?, state]
    simp only [none, own, false_or]
    by_cases same : i = t
    · simp [same, unused.2]
    · simp [same, Ne.symm same]

theorem restart (h : m.Agrees) {e : RemapEntry} {c : Option SpareIdx} {t t' : SpareIdx} {u : LineNo} {r : Fin 4}
    (old : m.entry? e.row = some e) (state : e.state = .pending c t u r) (free : m.spare t' = .free) :
    (m.restart e t').Agrees := by
  obtain ⟨target, apart⟩ := h.of_pending old state
  have other : t' ≠ t := fun same => by simp [same, target] at free
  have apart' (i : SpareIdx) (hi : c = some i) : i ≠ t' := fun same => by
    have := (apart i hi).1
    simp [same, free] at this
  refine h.setEntry (by simpa [BankRemap.restart, state] using h.rows) (entry?_restart old state t') ?_
    (fun i => ?_) fun i => ?_
  · rintro d hd
    cases hd
    refine ⟨?_, fun i hi => ?_⟩
    · cases c with
      | none => simp [RemapEntry.spares, RemapEntry.current, RemapEntry.target?]
      | some c => simpa [RemapEntry.spares, RemapEntry.current, RemapEntry.target?] using apart' c rfl
    · simp only [RemapEntry.spares, RemapEntry.current, RemapEntry.target?, List.mem_append,
        Option.mem_toList, Option.some.injEq] at hi
      rcases hi with current | rfl
      · exact .inr ⟨e, old, by simp [RemapEntry.spares, RemapEntry.current, state, current]⟩
      · exact .inl free
  · rw [spare_restart state]
    simp only [Option.some.injEq, exists_eq_left', old, forall_eq', RemapEntry.current, state]
    by_cases new : i = t'
    · subst new
      simpa [free] using fun current => apart' i current rfl
    · by_cases was : i = t
      · subst was
        simpa [new, target] using fun current => (apart i current).2 rfl
      · by_cases current : c = some i
        · simp [new, was, current, (apart i current).1]
        · simp [new, was, current]
  · rw [spare_restart state]
    simp only [Option.some.injEq, exists_eq_left', old, forall_eq', RemapEntry.target?, state]
    by_cases new : i = t'
    · simp [new]
    · by_cases was : i = t
      · simp [was, other, Ne.symm other]
      · simp [new, was, Ne.symm new, Ne.symm was]

theorem makePersistent (h : m.Agrees) (l : LogicalRow) : (m.makePersistent l).Agrees := by
  have rows : ((m.makePersistent l).entries.map RemapEntry.row).Nodup := by
    unfold BankRemap.makePersistent
    split
    · rw [rows_update]
      exact h.rows
    · exact h.rows
  refine h.setEntry rows (entry?_makePersistent m l) (fun d hd => ?_) (fun i => ?_) fun i => ?_
  · obtain ⟨e, old, rfl⟩ := Option.map_eq_some_iff.mp hd
    have same := h.spares_nodup (mem_of_entry? old)
    exact ⟨same, fun i hi => .inr ⟨e, old, hi⟩⟩
  · rw [spare_makePersistent]
    cases old : m.entry? l with
    | none => simp
    | some e =>
      have := fun c => (h.inUse i).mpr ⟨e, mem_of_entry? old, c⟩
      simp only [RemapEntry.current, Option.map_some, Option.some.injEq, exists_eq_left', forall_eq'] at this ⊢
      tauto
  · rw [spare_makePersistent]
    cases old : m.entry? l with
    | none => simp
    | some e =>
      have := fun c => (h.target i).mpr ⟨e, mem_of_entry? old, c⟩
      simp only [RemapEntry.target?, Option.map_some, Option.some.injEq, exists_eq_left', forall_eq'] at this ⊢
      tauto

theorem load (h : m.Agrees) {l : LogicalRow} (i : SpareIdx)
    (rest : ∀ e, m.entry? l = some e → e.isPending = false) : (m.load l i).Agrees := by
  by_cases free : m.spare i = .free
  · have rows : ((m.load l i).entries.map RemapEntry.row).Nodup := by
      simp only [BankRemap.load, free, if_true]
      split
      · rename_i none
        exact rows_insert (m := m.setSpare i .inUse) h.rows (by exact none)
      · rw [rows_update, entries_commitSpares]
        exact h.rows
    refine h.setEntry rows (entry?_load free l) ?_ (fun j => ?_) fun j => ?_
    · rintro d hd
      cases hd
      simp [RemapEntry.spares, RemapEntry.current, RemapEntry.target?, free]
    · rw [spare_load free]
      by_cases new : j = i
      · simp [new, RemapEntry.current]
      · cases old : m.entry? l with
        | none => simp [new, RemapEntry.current, Ne.symm new]
        | some e =>
          simp only [new, if_false, Option.bind_some, Option.some.injEq, exists_eq_left', forall_eq']
          by_cases current : e.current = some j
          · simp [current, Ne.symm new]
          · simp [current, Ne.symm new]
    · rw [spare_load free]
      by_cases new : j = i
      · subst new
        simp [RemapEntry.target?, free]
      · cases old : m.entry? l with
        | none => simp [new, RemapEntry.target?]
        | some e =>
          have none := RemapEntry.target?_of_active (rest e old)
          simp only [new, if_false, Option.bind_some, Option.some.injEq, exists_eq_left', forall_eq', none]
          by_cases current : e.current = some j
          · have used := (h.inUse j).mpr ⟨e, mem_of_entry? old, current⟩
            simp [RemapEntry.target?, current, used]
          · simp [RemapEntry.target?, current]
  · simpa [BankRemap.load, free] using h

end BankRemap.Agrees

/-! ### The engine and the PENDING entry (R88, R89) -/

theorem rowPending_iff {m : BankRemap} {l : LogicalRow} :
    rowPending m l = true ↔ ∃ e, m.entry? l = some e ∧ e.isPending = true := by
  unfold rowPending
  cases m.entry? l <;> simp

theorem rowPending_of_rows {m : BankRemap} (rows : (m.entries.map RemapEntry.row).Nodup) {l : LogicalRow} :
    rowPending m l = true ↔ ∃ e ∈ m.entries, e.row = l ∧ e.isPending = true := by
  rw [rowPending_iff]
  constructor
  · exact fun ⟨e, he, p⟩ => ⟨e, BankRemap.mem_of_entry? he, BankRemap.row_of_entry? he, p⟩
  · rintro ⟨e, he, rfl, p⟩
    exact ⟨e, BankRemap.entry?_of_mem rows he, p⟩

theorem remapInv_iff {s : State} : RemapInv s ↔ (∀ b, (s.remap b).Agrees) ∧
    (∀ b l, rowPending (s.remap b) l = true ↔ s.mig.state.moves b l) ∧
    (inStart s.hpt.state = true → s.mig.state = .idle) := by
  constructor
  · exact fun h => ⟨h.banks, fun b l => (rowPending_of_rows (h.banks b).rows).trans (h.pending b l), h.start⟩
  · exact fun ⟨banks, pending, start⟩ =>
      ⟨banks, fun b l => (rowPending_of_rows (banks b).rows).symm.trans (pending b l), start⟩

/-- Only one migration is in progress (R89). -/
theorem EngineState.moves_unique {v : EngineState} {b c : Bank} {l k : LogicalRow} (h : v.moves b l)
    (h' : v.moves c k) : c = b ∧ k = l := by
  cases v with
  | idle => exact h.elim
  | copying a r p => exact ⟨h'.1.symm.trans h.1, h'.2.symm.trans h.2⟩
  | parked a r => exact ⟨h'.1.symm.trans h.1, h'.2.symm.trans h.2⟩

@[simp] theorem EngineState.moves_idle (b : Bank) (l : LogicalRow) : ¬EngineState.moves .idle b l := id
@[simp] theorem EngineState.moves_copying (a b : Bank) (r l : LogicalRow) (p : CopyRequest) :
    EngineState.moves (.copying a r p) b l ↔ a = b ∧ r = l := Iff.rfl
@[simp] theorem EngineState.moves_parked (a b : Bank) (r l : LogicalRow) :
    EngineState.moves (.parked a r) b l ↔ a = b ∧ r = l := Iff.rfl

/-- The engine is IDLE exactly while no migration is in progress. -/
theorem EngineState.eq_idle_iff {v : EngineState} : v = .idle ↔ ∀ b l, ¬v.moves b l := by
  cases v <;> simp

/-- The entry that the search finds is the PENDING entry of the migration in progress (R88). -/
theorem RemapInv.of_pending? {s : State} (h : RemapInv s) {b : Bank} {e : RemapEntry}
    (found : (s.remap b).pending? = some e) :
    (s.remap b).entry? e.row = some e ∧ (∃ c t u r, e.state = .pending c t u r) ∧
      s.mig.state.moves b e.row := by
  have member : e ∈ (s.remap b).entries := List.mem_of_find?_eq_some found
  have pending : e.isPending = true := List.find?_some found
  exact ⟨BankRemap.entry?_of_mem (h.banks b).rows member, RemapEntry.isPending_iff.mp pending,
    (h.pending b e.row).mp ⟨e, member, rfl, pending⟩⟩

/-- A migration in progress has its PENDING entry (R89). -/
theorem RemapInv.exists_pending? {s : State} (h : RemapInv s) {b : Bank} {l : LogicalRow}
    (moves : s.mig.state.moves b l) : ∃ e, (s.remap b).pending? = some e ∧ e.row = l := by
  obtain ⟨e, member, row, pending⟩ := (h.pending b l).mpr moves
  exact ⟨e, h.pending?_eq member pending, row⟩

theorem RemapInv.of_same {s t : State} (h : RemapInv s) (remap : ∀ b, t.remap b = s.remap b)
    (moves : ∀ b l, t.mig.state.moves b l ↔ s.mig.state.moves b l)
    (start : inStart t.hpt.state = true → inStart s.hpt.state = true) : RemapInv t where
  banks b := remap b ▸ h.banks b
  pending b l := by rw [remap, h.pending, moves]
  start starting := EngineState.eq_idle_iff.mpr fun b l moving => by
    rw [moves, h.start (start starting)] at moving
    exact moving

/-- A change of the table of one bank. -/
theorem RemapInv.of_table {s t : State} {b : Bank} {m : BankRemap} (h : RemapInv s)
    (remap : ∀ x, t.remap x = if x = b then m else s.remap x) (agrees : m.Agrees)
    (pending : ∀ l, rowPending m l = true ↔ t.mig.state.moves b l)
    (others : ∀ x l, x ≠ b → (t.mig.state.moves x l ↔ s.mig.state.moves x l))
    (start : inStart t.hpt.state = true → t.mig.state = .idle) : RemapInv t := by
  obtain ⟨banks, before, -⟩ := remapInv_iff.mp h
  refine remapInv_iff.mpr ⟨fun x => ?_, fun x l => ?_, start⟩
  · rw [remap]
    split
    · exact agrees
    · exact banks x
  · rw [remap]
    split
    · rename_i same
      exact same ▸ pending l
    · rename_i other
      exact (before x l).trans (others x l other).symm

end Sys2Proof.Machine
end

section
/-! What each happening of a migration makes of the engine and of the remap table of every bank (Chapter 6), and
the invariant of the remap table. -/

namespace Sys2Proof.Machine

/-! ### The engine -/

@[simp] theorem setEngine_mig (v : EngineState) (s : State) : (setEngine v s).mig = { s.mig with state := v } := rfl

@[simp] theorem startOn_mig (b : Bank) (l : LogicalRow) (t : SpareIdx) (s : State) :
    (startOn b l t s).mig = { s.mig with state := startState s b l } := by simp [startOn]

theorem startState_moves (s : State) (b c : Bank) (l k : LogicalRow) :
    (startState s b l).moves c k ↔ b = c ∧ l = k := by unfold startState; split <;> simp

@[simp] theorem endMigration_mig (v : LastMigration) (s : State) :
    (endMigration v s).mig = { state := .idle, last := some v } := rfl

@[simp] theorem commitMigration_mig (b : Bank) (l : LogicalRow) (e : RemapEntry) (s : State) :
    (commitMigration b l e s).mig = { state := .idle, last := some ⟨.committed, b, l, e.restarts⟩ } := rfl

@[simp] theorem failMigration_mig (b : Bank) (l : LogicalRow) (e : RemapEntry) (s : State) :
    (failMigration b l e s).mig =
      { state := .idle
        last := some ⟨if e.restarts = 3 then .failedRestarts else .failedNoSpare, b, l, e.restarts⟩ } := rfl

theorem applyAbort_of_pending {s : State} {b : Bank} {e : RemapEntry} (found : (s.remap b).pending? = some e)
    (l : LogicalRow) : applyAbort b l s = endMigration ⟨.aborted, b, l, e.restarts⟩
      ((s.setRemap b ((s.remap b).revert e .free)).setFrt s.frt.atAbort) := by
  simp only [applyAbort, found]

/-- The state of the engine after a copy that leaves the migration in progress (R106, R108). -/
def restedState (parkPending : Bool) (b : Bank) (l : LogicalRow) : EngineState :=
  if parkPending then .parked b l else .copying b l .absent

theorem restedState_moves (p : Bool) (b c : Bank) (l k : LogicalRow) :
    (restedState p b l).moves c k ↔ b = c ∧ l = k := by unfold restedState; split <;> simp

@[simp] theorem afterCopy_mig (p : Bool) (b : Bank) (l : LogicalRow) (s : State) :
    (afterCopy p b l s).mig = { s.mig with state := restedState p b l } := rfl

@[simp] theorem restartMigration_mig (p : Bool) (b : Bank) (l : LogicalRow) (e : RemapEntry) (t : SpareIdx)
    (s : State) : (restartMigration p b l e t s).mig = { s.mig with state := restedState p b l } := by
  simp [restartMigration]

/-- Parking keeps the migration in progress (R111). -/
theorem park_moves (s : State) (b : Bank) (l : LogicalRow) :
    (park s).mig.state.moves b l ↔ s.mig.state.moves b l := by
  unfold park
  split <;> rename_i engine <;> simp [engine]

theorem unpark_moves (s : State) (b : Bank) (l : LogicalRow) :
    (unpark s).mig.state.moves b l ↔ s.mig.state.moves b l := by
  unfold unpark
  split <;> rename_i engine <;> simp [engine]

theorem runCopy_moves (s : State) (b : Bank) (l : LogicalRow) :
    (runCopy s).mig.state.moves b l ↔ s.mig.state.moves b l := by
  unfold runCopy
  split <;> rename_i engine <;> simp [engine]

theorem grantCopy_moves (x : Bank) (s : State) (b : Bank) (l : LogicalRow) :
    (grantCopy x s).mig.state.moves b l ↔ s.mig.state.moves b l := by
  unfold grantCopy
  split
  · rw [runCopy_moves]
    simp
  · rfl

/-! ### The tables -/

theorem startOn_tables (b : Bank) (l : LogicalRow) (t : SpareIdx) (s : State) (x : Bank) :
    (startOn b l t s).remap x = if x = b then (s.remap b).create l t else s.remap x := by
  simp [startOn, State.remap_setRemap]

theorem commitMigration_tables (b : Bank) (l : LogicalRow) (e : RemapEntry) (s : State) (x : Bank) :
    (commitMigration b l e s).remap x = if x = b then (s.remap b).commit e else s.remap x := by
  simp [commitMigration, State.remap_setRemap]

theorem failMigration_tables (b : Bank) (l : LogicalRow) (e : RemapEntry) (s : State) (x : Bank) :
    (failMigration b l e s).remap x = if x = b then (s.remap b).revert e .retired else s.remap x := by
  simp [failMigration, State.remap_setRemap]

theorem restartMigration_tables (p : Bool) (b : Bank) (l : LogicalRow) (e : RemapEntry) (t : SpareIdx)
    (s : State) (x : Bank) :
    (restartMigration p b l e t s).remap x = if x = b then (s.remap b).restart e t else s.remap x := by
  simp [restartMigration, State.remap_setRemap]

theorem applyAbort_tables {s : State} {b : Bank} {e : RemapEntry} (found : (s.remap b).pending? = some e)
    (l : LogicalRow) (x : Bank) :
    (applyAbort b l s).remap x = if x = b then (s.remap b).revert e .free else s.remap x := by
  simp [applyAbort_of_pending found, State.remap_setRemap]

theorem burnPasses_tables (u : Burn) (s : State) (x : Bank) :
    (burnPasses u s).remap x =
      if x = u.bank ∧ (s.remap u.bank).burnMatches u.row u.spare = true then
        (s.remap u.bank).makePersistent u.row
      else s.remap x := by
  unfold burnPasses
  dsimp only
  split
  · rename_i claimed
    have same : (s.remap u.bank).burnMatches u.row u.spare = true := by simpa using claimed
    simp [completeBurn, State.remap_setRemap, same]
  · rename_i lost
    have same : ¬(s.remap u.bank).burnMatches u.row u.spare = true := by simpa using lost
    simp [completeBurn, same]

@[simp] theorem clearRemap_remap (s : State) (b : Bank) : (clearRemap s).remap b = .initial := by
  simp [State.remap, clearRemap]

@[simp] theorem beginStart_remap (s : State) (b : Bank) : (beginStart s).remap b = .initial :=
  clearRemap_remap s b

@[simp] theorem resetRemap_remap (s : State) (b : Bank) :
    (resetRemap s).remap b = (s.remap b).revertPending := by
  simp [State.remap, resetRemap]

@[simp] theorem warmReset_remap (s : State) (b : Bank) : (warmReset s).remap b = (s.remap b).revertPending :=
  resetRemap_remap s b

@[simp] theorem warmReset_mig (s : State) : (warmReset s).mig = { state := .idle, last := none } := rfl

@[simp] theorem powerOnValues_remap (s : State) (b : Bank) : (powerOnValues s).remap b = .initial := by
  simp [State.remap, powerOnValues, State.reset]

@[simp] theorem powerOnValues_mig (s : State) : (powerOnValues s).mig = { state := .idle, last := none } := rfl

theorem BankRemap.initial_agrees : BankRemap.initial.Agrees := by
  constructor <;> simp [BankRemap.initial, BankRemap.spare]

theorem rowPending_initial (l : LogicalRow) : rowPending .initial l = false := rfl

/-! ### The PENDING entry after each claim -/

/-- A claim for the row of the PENDING entry alone. -/
theorem rowPending_of_entry {m m' : BankRemap} {l : LogicalRow} {new : Option RemapEntry}
    (entry : ∀ k, m'.entry? k = if k = l then new else m.entry? k) (k : LogicalRow) :
    rowPending m' k = true ↔
      k = l ∧ (∃ e, new = some e ∧ e.isPending = true) ∨ k ≠ l ∧ rowPending m k = true := by
  rw [rowPending_iff, rowPending_iff, entry]
  by_cases same : k = l <;> simp [same]

theorem reverted_not_pending (e : RemapEntry) :
    ¬∃ d, BankRemap.reverted e = some d ∧ d.isPending = true := by
  rintro ⟨d, hd, pending⟩
  obtain ⟨c, -, rfl⟩ := Option.map_eq_some_iff.mp hd
  simp [RemapEntry.isPending] at pending

namespace RemapInv

variable {s : State}

/-- A migration of row `l` of bank `b` in progress: no other row is PENDING. -/
theorem rowPending_iff_of_moves (h : RemapInv s) {b : Bank} {l : LogicalRow} (moves : s.mig.state.moves b l)
    (c : Bank) (k : LogicalRow) : rowPending (s.remap c) k = true ↔ c = b ∧ k = l := by
  rw [(remapInv_iff.mp h).2.1]
  exact ⟨fun other => EngineState.moves_unique moves other, fun ⟨hc, hk⟩ => hc ▸ hk ▸ moves⟩

theorem startOn (h : RemapInv s) {b : Bank} {l : LogicalRow} {x : SpareIdx}
    (started : inStart s.hpt.state = false) (idle : s.mig.state = .idle)
    (free : (s.remap b).lowestFree? = some x) : RemapInv (startOn b l x s) := by
  have rest (c : Bank) (k : LogicalRow) : ¬rowPending (s.remap c) k = true := by
    rw [(remapInv_iff.mp h).2.1, idle]
    exact id
  have calm (e : RemapEntry) (old : (s.remap b).entry? l = some e) : e.isPending = false := by
    by_contra pending
    exact rest b l (rowPending_iff.mpr ⟨e, old, by simpa using pending⟩)
  refine h.of_table (startOn_tables b l x s)
    ((h.banks b).create (BankRemap.lowestFree?_eq_some_iff.mp free).1 calm) (fun k => ?_) (fun c k other => ?_) ?_
  · have pending (e : RemapEntry) (he : some (match (s.remap b).entry? l with
        | none => (⟨l, .pending none x 0 0, .volatile⟩ : RemapEntry)
        | some e => { e with state := .pending e.current x 0 0 }) = some e) : e.isPending = true := by
      cases he
      split <;> rfl
    rw [rowPending_of_entry (BankRemap.entry?_create (s.remap b) l x), startOn_mig, startState_moves]
    constructor
    · rintro (⟨rfl, -⟩ | ⟨-, other⟩)
      · exact ⟨rfl, rfl⟩
      · exact absurd other (rest b k)
    · exact fun ⟨_, same⟩ => .inl ⟨same.symm, _, rfl, pending _ rfl⟩
  · rw [startOn_mig, startState_moves, idle]
    simp [Ne.symm other]
  · simp [started]

/-- The end of a migration: its row's entry is no longer PENDING, and the engine is IDLE. -/
theorem ended (h : RemapInv s) {t : State} {b : Bank} {e : RemapEntry} {m : BankRemap} {new : Option RemapEntry}
    (moves : s.mig.state.moves b e.row) (remap : ∀ x, t.remap x = if x = b then m else s.remap x)
    (agrees : m.Agrees) (entry : ∀ k, m.entry? k = if k = e.row then new else (s.remap b).entry? k)
    (calm : ¬∃ d, new = some d ∧ d.isPending = true) (idle : t.mig.state = .idle) : RemapInv t := by
  refine h.of_table remap agrees (fun k => ?_) (fun c k other => ?_) fun _ => idle
  · rw [rowPending_of_entry entry, h.rowPending_iff_of_moves moves, idle]
    simp only [calm, and_false, false_or, EngineState.moves_idle, iff_false]
    exact fun ⟨other, same⟩ => other same.2
  · rw [idle]
    simp only [EngineState.moves_idle, false_iff]
    exact fun same => other (EngineState.moves_unique moves same).1

/-- A migration that goes on: its row's entry stays PENDING. -/
theorem goesOn (h : RemapInv s) {t : State} {b : Bank} {e d : RemapEntry} {m : BankRemap}
    (moves : s.mig.state.moves b e.row) (remap : ∀ x, t.remap x = if x = b then m else s.remap x)
    (agrees : m.Agrees) (entry : ∀ k, m.entry? k = if k = e.row then some d else (s.remap b).entry? k)
    (pending : d.isPending = true) (same : ∀ c k, t.mig.state.moves c k ↔ b = c ∧ e.row = k)
    (start : inStart t.hpt.state = true → t.mig.state = .idle) : RemapInv t := by
  refine h.of_table remap agrees (fun k => ?_) (fun c k other => ?_) start
  · rw [rowPending_of_entry entry, h.rowPending_iff_of_moves moves, same]
    constructor
    · rintro (⟨rfl, -⟩ | ⟨-, -, rfl⟩) <;> exact ⟨rfl, rfl⟩
    · exact fun ⟨_, hk⟩ => .inl ⟨hk.symm, d, rfl, pending⟩
  · rw [same]
    simp only [Ne.symm other, false_and, false_iff]
    exact fun at_c => other (EngineState.moves_unique moves at_c).1

theorem applyAbort (h : RemapInv s) (b : Bank) (l : LogicalRow) : RemapInv (applyAbort b l s) := by
  cases found : (s.remap b).pending? with
  | none => simpa [Machine.applyAbort, found] using h
  | some e =>
    obtain ⟨old, ⟨c, t, u, r, state⟩, moves⟩ := h.of_pending? found
    refine h.ended moves (applyAbort_tables found l) ((h.banks b).revert old state (.inl rfl))
      (BankRemap.entry?_revert old state _) (reverted_not_pending e) ?_
    rw [applyAbort_of_pending found, endMigration_mig]

theorem commitMigration (h : RemapInv s) {b : Bank} {e : RemapEntry} (found : (s.remap b).pending? = some e)
    (l : LogicalRow) : RemapInv (commitMigration b l e s) := by
  obtain ⟨old, ⟨c, t, u, r, state⟩, moves⟩ := h.of_pending? found
  exact h.ended moves (commitMigration_tables b l e s) ((h.banks b).commit old state)
    (BankRemap.entry?_commit old state) (by simp [RemapEntry.isPending]) rfl

theorem failMigration (h : RemapInv s) {b : Bank} {e : RemapEntry} (found : (s.remap b).pending? = some e)
    (l : LogicalRow) : RemapInv (failMigration b l e s) := by
  obtain ⟨old, ⟨c, t, u, r, state⟩, moves⟩ := h.of_pending? found
  exact h.ended moves (failMigration_tables b l e s) ((h.banks b).revert old state (.inr rfl))
    (BankRemap.entry?_revert old state _) (reverted_not_pending e) rfl

/-- Outside start a state that keeps the controller state is outside start (R120). -/
theorem not_inStart (h : RemapInv s) {b : Bank} {l : LogicalRow} (moves : s.mig.state.moves b l) :
    ¬inStart s.hpt.state = true := fun starting => by
  rw [h.start starting] at moves
  exact moves

theorem copied (h : RemapInv s) {b : Bank} {l : LogicalRow} {e : RemapEntry}
    (found : (s.remap b).pending? = some e) (row : e.row = l) (p : Bool) (n : LineNo) :
    RemapInv (copied p b l e n s) := by
  obtain ⟨old, ⟨c, t, u, r, state⟩, moves⟩ := h.of_pending? found
  unfold Machine.copied
  split
  · refine h.goesOn (d := { e with state := .pending c t (n + 1) r }) moves
      (fun x => by rw [afterCopy_remap, State.remap_setRemap]) ((h.banks b).advance old state n)
      (BankRemap.entry?_advance old state n) rfl (fun a k => ?_) fun starting => ?_
    · rw [afterCopy_mig, restedState_moves, row]
    · exact absurd (by simpa using starting) (h.not_inStart moves)
  · exact h.commitMigration found l

theorem verifyFailed (h : RemapInv s) {b : Bank} {l : LogicalRow} {e : RemapEntry}
    (found : (s.remap b).pending? = some e) (row : e.row = l) (p : Bool) :
    RemapInv (verifyFailed p b l e s) := by
  obtain ⟨old, ⟨c, t, u, r, state⟩, moves⟩ := h.of_pending? found
  unfold Machine.verifyFailed
  split
  · rename_i t' free
    split
    · refine h.goesOn (d := { e with state := .pending c t' 0 (r + 1) }) moves
        (restartMigration_tables p b l e t' s)
        ((h.banks b).restart old state (BankRemap.lowestFree?_eq_some_iff.mp free).1)
        (BankRemap.entry?_restart old state t') rfl (fun a k => ?_) fun starting => ?_
      · rw [restartMigration_mig, restedState_moves, row]
      · exact absurd (by simpa using starting) (h.not_inStart moves)
    · exact h.failMigration found l
  · exact h.failMigration found l

theorem copyEnds (h : RemapInv s) (n : LineNo) (v : Bool) : RemapInv (copyEnds n v s) := by
  unfold Machine.copyEnds
  split
  · rename_i b l p a engine
    split
    · exact (h.applyAbort b l).of_same (by simp) (by simp) (by simp)
    · split
      · rename_i e found
        have row : e.row = l := by
          have moves := (h.of_pending? found).2.2
          rw [engine] at moves
          exact moves.2.symm
        split
        · exact h.copied found row p n
        · exact h.verifyFailed found row p
      · exact h
  all_goals exact h

theorem burnPasses (h : RemapInv s) (u : Burn) : RemapInv (burnPasses u s) := by
  have engine : (Machine.burnPasses u s).mig = s.mig := by simp
  have state : (Machine.burnPasses u s).hpt = s.hpt := by simp
  by_cases claimed : (s.remap u.bank).burnMatches u.row u.spare = true
  · refine h.of_table (b := u.bank) (fun x => by simp only [burnPasses_tables, claimed, and_true])
      ((h.banks u.bank).makePersistent u.row) (fun l => ?_) (fun x l _ => by rw [engine])
      (by rw [engine, state]; exact h.start)
    rw [engine, ← (remapInv_iff.mp h).2.1, rowPending_iff, rowPending_iff, BankRemap.entry?_makePersistent]
    split
    · rename_i same
      subst same
      cases (s.remap u.bank).entry? u.row <;> simp [RemapEntry.isPending]
    · rfl
  · exact h.of_same (fun x => by simp [burnPasses_tables, claimed]) (by simp)
      (by rw [state]; exact id)

end RemapInv

/-! ### The power-on load (9.3) -/

/-- Entries and spares of every bank agree, and no entry is PENDING. -/
def tablesAgree (s : State) : Prop := ∀ b, (s.remap b).Agrees ∧ ∀ l, ¬rowPending (s.remap b) l = true

theorem tablesAgree.loadSlot {s : State} (h : tablesAgree s) (v : StoreSlot) : tablesAgree (loadSlot s v) := by
  cases v with
  | blank => exact h
  | bad => exact h
  | written b l i =>
    intro x
    simp only [Machine.loadSlot, State.remap_setRemap]
    split
    · have calm (e : RemapEntry) (old : (s.remap b).entry? l = some e) : e.isPending = false := by
        by_contra pending
        exact (h b).2 l (rowPending_iff.mpr ⟨e, old, by simpa using pending⟩)
      refine ⟨(h b).1.load i calm, fun k => ?_⟩
      by_cases free : (s.remap b).spare i = .free
      · rw [rowPending_of_entry (BankRemap.entry?_load free l)]
        simp [RemapEntry.isPending, (h b).2 k]
      · simpa [BankRemap.load, free] using (h b).2 k
    · exact h x

theorem tablesAgree.loadStore {s : State} (h : tablesAgree s) : tablesAgree (loadStore s) :=
  List.foldlRecOn (motive := tablesAgree) s.rps.slots.toList Machine.loadSlot h
    fun _ ht v _ => ht.loadSlot v

theorem RemapInv.calm {s : State} (h : RemapInv s) (idle : s.mig.state = .idle) : tablesAgree s :=
  fun b => ⟨h.banks b, fun l => by rw [(remapInv_iff.mp h).2.1, idle]; exact id⟩

theorem RemapInv.of_calm {t : State} (h : tablesAgree t) (idle : t.mig.state = .idle) : RemapInv t :=
  remapInv_iff.mpr ⟨fun b => (h b).1, fun b l => by rw [idle]; exact iff_of_false ((h b).2 l) id, fun _ => idle⟩

theorem initial_tablesAgree {t : State} (h : ∀ b, t.remap b = .initial) : tablesAgree t := fun b => by
  rw [h b]
  exact ⟨BankRemap.initial_agrees, fun l => by simp [rowPending_initial]⟩

/-- The revert of a warm reset leaves no PENDING entry (R97). -/
theorem RemapInv.revertPending {s : State} (h : RemapInv s) (b : Bank) :
    (s.remap b).revertPending.Agrees ∧ ∀ l, ¬rowPending (s.remap b).revertPending l = true := by
  unfold BankRemap.revertPending
  cases found : (s.remap b).pending? with
  | none =>
    refine ⟨h.banks b, fun l pending => ?_⟩
    obtain ⟨e, old, pending⟩ := rowPending_iff.mp pending
    have := BankRemap.pending?_eq_none_iff.mp found e (BankRemap.mem_of_entry? old)
    simp [pending] at this
  | some e =>
    obtain ⟨old, ⟨c, t, u, r, state⟩, moves⟩ := h.of_pending? found
    refine ⟨(h.banks b).revert old state (.inl rfl), fun l => ?_⟩
    dsimp only
    rw [rowPending_of_entry (BankRemap.entry?_revert old state .free), h.rowPending_iff_of_moves moves]
    rintro (⟨-, pending⟩ | ⟨other, -, same⟩)
    · exact reverted_not_pending e pending
    · exact other same

theorem remapInv_keptByAll : KeptByAll RemapInv := by
  have kept : Kept RemapInv := by
    constructor
    case beginStart =>
      exact fun s starting h => .of_calm (initial_tablesAgree (by simp)) (by simpa using h.start starting)
    case loaded =>
      intro s state h
      have idle := h.start (by simp [state, inStart])
      exact .of_calm (fun b => by simpa using (h.calm idle).loadStore b) (by simpa using idle)
    case started | restarted =>
      exact fun s state h => h.of_same (by simp) (by simp) (by simp [inStart])
    case restarting => exact fun s state h => h.of_same (by simp) (by simp) (by simp [inStart])
    case exited => exact fun s _ h => h.of_same (by simp) (by simp) (by simp [inStart])
    case entering | leaving => exact fun s _ _ h => h.of_same (by simp) (by simp) (by simp [inStart])
    case grantCopy => exact fun s b _ _ h => h.of_same (by simp) (grantCopy_moves b s) (by simp)
    case copyPlaced =>
      intro s b l engine h
      exact h.of_same (by simp) (by simp [copyPlaced, engine]) (by simp)
    case copyEnds =>
      exact fun s b l p x n v _ h => RemapInv.copyEnds (h.of_same (by simp) (by simp) (by simp)) n v
    case startOn => exact fun s b l x started idle free h => h.startOn started idle free
    case park => exact fun s h => h.of_same (by simp) (park_moves s) (by simp)
    case unpark => exact fun s h => h.of_same (by simp) (unpark_moves s) (by simp)
    case burnPasses => exact fun s u _ h => h.burnPasses u
    case abortAtRest => exact fun s b l _ h => h.applyAbort b l
    case abortWaiting =>
      exact fun s b l _ h => RemapInv.applyAbort (h.of_same (by simp) (by simp) (by simp)) b l
    case abortBegun =>
      exact fun s b l p a _ engine h => h.of_same (by simp) (by simp [engine]) (by simp)
    case storeRmpSelect => exact fun s w h => h.of_same (fun _ => rfl) (by simp) (by simp)
    case storeConfig => exact fun s w h => h.of_same (by simp) (by simp) (by simp)
    case retainBank =>
      refine fun s b may h => h.of_same (by simp) (by simp) fun starting => ?_
      rcases retainBank_state may with state | state <;> simp [state, inStart] at starting
    all_goals
      intros
      exact RemapInv.of_same ‹_› (by simp) (by simp) (by simp)
  apply KeptByAll.mk kept
  case applyPower | losePower =>
    intros
    refine .of_calm (initial_tablesAgree fun b => ?_) rfl
    rw [State.remap_powered, powerOnValues_remap]
  case warmReset =>
    exact fun s h => .of_calm (fun b => by rw [warmReset_remap]; exact h.revertPending b) rfl
  case lines =>
    intro s t keeps _ h
    obtain ⟨rmp, mig, hpt⟩ : t.rmp = s.rmp ∧ t.mig = s.mig ∧ t.hpt = s.hpt := by simp_all [keepsAllBut_iff]
    exact h.of_same (by simp [State.remap_congr rmp]) (by simp [mig]) (by simp [hpt])
  all_goals
    intros
    exact RemapInv.of_same ‹_› (by simp) (by simp) (by simp)

end Sys2Proof.Machine
end

section
/-! MIG's copy request at exactly the bank that the engine names (R30, R88, R105). -/

namespace Sys2Proof.Machine

/-- The engine has no copy request under way: none waits and none runs (Table 6-1). -/
def EngineState.atRest : EngineState → Prop
  | .idle => True
  | .parked _ _ => True
  | .copying _ _ .absent => True
  | .copying _ _ .waiting => False
  | .copying _ _ (.running _ _) => False

/-- The bank copies for MIG: a COPY LINE is in progress whose result is to be delivered. -/
def BankSection.copies (k : BankSection) : Prop := ∃ l p x n, k.phase = .busy (.copyLine l p x n) .deliver

theorem BankSection.not_copies_of_idle {k : BankSection} (idle : k.phase = .idle) : ¬k.copies := by
  rintro ⟨l, p, x, n, busy⟩
  simp [idle] at busy

theorem restedState_atRest (p : Bool) (b : Bank) (l : LogicalRow) : (restedState p b l).atRest := by
  unfold restedState; split <;> trivial

theorem startState_atRest (s : State) (b : Bank) (l : LogicalRow) : (startState s b l).atRest := by
  unfold startState; split <;> trivial

/-- A change that keeps the engine, the migration slots, the copies in progress and the entries. -/
theorem CopyInv.of_same {s t : State} (h : CopyInv s) (engine : t.mig.state = s.mig.state)
    (slot : ∀ b, (t.bank b).migrationSlot = (s.bank b).migrationSlot)
    (copies : ∀ b, (t.bank b).phase = (s.bank b).phase ∨ ¬(t.bank b).copies ∧ ¬(s.bank b).copies)
    (remap : ∀ b, t.remap b = s.remap b) : CopyInv t where
  slot b := by rw [slot, engine]; exact h.slot b
  copy b l p x n busy := by
    obtain same | ⟨none, -⟩ := copies b
    · rw [engine, remap]
      exact h.copy b l p x n (same ▸ busy)
    · exact absurd ⟨l, p, x, n, busy⟩ none
  running b l park abort run := by
    rw [engine] at run
    obtain ⟨p, x, n, busy⟩ := h.running b l park abort run
    obtain same | ⟨-, none⟩ := copies b
    · exact ⟨p, x, n, same ▸ busy⟩
    · exact absurd ⟨l, p, x, n, busy⟩ none

/-- A bank whose section alone changes: it copies neither before nor after, and its migration slot stays. -/
theorem CopyInv.of_section {s t : State} {b : Bank} {k : BankSection} (h : CopyInv s)
    (engine : t.mig.state = s.mig.state) (sections : ∀ x, t.bank x = if x = b then k else s.bank x)
    (slot : k.migrationSlot = (s.bank b).migrationSlot)
    (copies : k.phase = (s.bank b).phase ∨ ¬k.copies ∧ ¬(s.bank b).copies)
    (remap : ∀ b, t.remap b = s.remap b) : CopyInv t := by
  refine h.of_same engine (fun x => ?_) (fun x => ?_) remap
  · rw [sections]
    split
    · rename_i same
      rw [slot, same]
    · rfl
  · rw [sections]
    split
    · rename_i same
      exact same ▸ copies
    · exact .inl rfl

/-- With the engine at rest no slot is filled and no bank copies, whatever the table holds. -/
theorem CopyInv.of_rest {t : State} (rest : t.mig.state.atRest) (slot : ∀ b, (t.bank b).migrationSlot = false)
    (copies : ∀ b, ¬(t.bank b).copies) : CopyInv t where
  slot b := by
    rw [slot]
    refine iff_of_false (by simp) ?_
    rintro ⟨l, engine⟩
    rw [engine] at rest
    exact rest
  copy b l p x n busy := absurd ⟨l, p, x, n, busy⟩ (copies b)
  running b l park abort run := by
    rw [run] at rest
    exact rest.elim

theorem CopyInv.slot_false {s : State} (h : CopyInv s) {b : Bank}
    (elsewhere : ∀ l, s.mig.state ≠ .copying b l .waiting) : (s.bank b).migrationSlot = false := by
  by_contra filled
  obtain ⟨l, engine⟩ := (h.slot b).mp (by simpa using filled)
  exact elsewhere l engine

theorem CopyInv.not_copies {s : State} (h : CopyInv s) {b : Bank}
    (elsewhere : ∀ l p a, s.mig.state ≠ .copying b l (.running p a)) : ¬(s.bank b).copies := by
  rintro ⟨l, p, x, n, busy⟩
  obtain ⟨⟨park, abort, engine⟩, -⟩ := h.copy b l p x n busy
  exact elsewhere _ _ _ engine

/-- From rest to rest: the sections keep their slots and phases. -/
theorem CopyInv.stays {s t : State} (h : CopyInv s) (before : s.mig.state.atRest) (after : t.mig.state.atRest)
    (slot : ∀ b, (t.bank b).migrationSlot = (s.bank b).migrationSlot)
    (phase : ∀ b, (t.bank b).phase = (s.bank b).phase) : CopyInv t := by
  refine .of_rest after (fun b => ?_) fun b => ?_
  · rw [slot]
    exact h.slot_false fun l engine => by simp [engine, EngineState.atRest] at before
  · rintro ⟨l, p, x, n, busy⟩
    rw [phase] at busy
    exact h.not_copies (b := b) (fun k a c engine => by simp [engine, EngineState.atRest] at before)
      ⟨l, p, x, n, busy⟩

/-- A waiting copy request leaves its slot (R23): none waits and none runs. -/
theorem CopyInv.withdrawn {s t : State} {b : Bank} {l : LogicalRow} (h : CopyInv s)
    (waiting : s.mig.state = .copying b l .waiting) (after : t.mig.state.atRest)
    (sections : ∀ x, t.bank x = (withdrawCopy b s).bank x) : CopyInv t := by
  refine .of_rest after (fun x => ?_) fun x => ?_
  · rw [sections, withdrawCopy_section]
    split
    · rfl
    · rename_i other
      refine h.slot_false fun k engine => other ?_
      rw [waiting] at engine
      cases engine
      rfl
  · have := h.not_copies (b := x) fun k p a engine => by simp [waiting] at engine
    rw [sections, withdrawCopy_section]
    split
    · rename_i same
      exact same ▸ this
    · exact this

/-- A mark set on or taken off a RUNNING request (R111, R113, R115). -/
theorem CopyInv.marked {s t : State} {b : Bank} {l : LogicalRow} {p a p' a' : Bool} (h : CopyInv s)
    (engine : s.mig.state = .copying b l (.running p a)) (after : t.mig.state = .copying b l (.running p' a'))
    (banks : ∀ x, t.bank x = s.bank x) (remap : ∀ x, t.remap x = s.remap x) : CopyInv t where
  slot x := by
    rw [banks, h.slot, after, engine]
    simp
  copy x k q y n busy := by
    rw [banks] at busy
    obtain ⟨⟨park, abort, run⟩, entry⟩ := h.copy x k q y n busy
    rw [engine] at run
    cases run
    rw [remap]
    exact ⟨⟨p', a', after⟩, entry⟩
  running x k park abort run := by
    rw [after] at run
    cases run
    rw [banks]
    exact h.running b l p a engine

theorem CopyInv.idleBank {s : State} {b : Bank} {op : Operation} {d : Disposition} (h : CopyInv s)
    (busy : (s.bank b).phase = .busy op d) (none : d = .discard ∨ ∀ l p x n, op ≠ .copyLine l p x n) :
    CopyInv (idleBank b s) := by
  refine h.of_section (by simp) (idleBank_section b s) rfl
    (.inr ⟨BankSection.not_copies_of_idle rfl, fun ⟨l, p, x, n, copy⟩ => ?_⟩) (by simp)
  rw [busy] at copy
  simp only [Phase.busy.injEq] at copy
  rcases none with rfl | none
  · cases copy.2
  · exact none _ _ _ _ copy.1

theorem CopyInv.park {s : State} (h : CopyInv s) : CopyInv (park s) := by
  unfold Machine.park
  split
  · exact h
  · exact h
  · rename_i b l engine
    exact h.stays (by simp [engine, EngineState.atRest]) trivial (by simp) (by simp)
  · rename_i b l engine
    exact h.withdrawn engine trivial (by simp)
  · rename_i b l p a engine
    exact h.marked engine rfl (by simp) (by simp)

theorem CopyInv.unpark {s : State} (h : CopyInv s) : CopyInv (unpark s) := by
  unfold Machine.unpark
  split
  · exact h
  · rename_i b l engine
    exact h.stays (by simp [engine, EngineState.atRest]) trivial (by simp) (by simp)
  · exact h
  · exact h
  · rename_i b l p a engine
    exact h.marked engine rfl (by simp) (by simp)

theorem CopyInv.copyPlaced {s : State} {b : Bank} {l : LogicalRow} (h : CopyInv s)
    (engine : s.mig.state = .copying b l .absent) : CopyInv (copyPlaced b l s) := by
  have after : (Machine.copyPlaced b l s).mig.state = .copying b l .waiting := by simp [Machine.copyPlaced]
  have none (x : Bank) : ¬(s.bank x).copies := h.not_copies fun k p a run => by simp [engine] at run
  refine ⟨fun x => ?_, fun x k p y n busy => ?_, fun x k p a run => by simp [after] at run⟩
  · rw [after, copyPlaced_section]
    by_cases same : x = b
    · subst same
      simp
    · have := h.slot_false (b := x) fun k waiting => by simp [engine] at waiting
      simp [same, this, Ne.symm same]
  · rw [copyPlaced_section] at busy
    split at busy
    · rename_i same
      exact absurd ⟨k, p, y, n, busy⟩ (same ▸ none x)
    · exact absurd ⟨k, p, y, n, busy⟩ (none x)

/-- The grant of a waiting copy request: RUNNING, with the COPY LINE of the PENDING entry's cursor line (R30). -/
theorem CopyInv.grantCopy {s : State} {b : Bank} (h : CopyInv s) (table : RemapInv s)
    (slot : (s.bank b).migrationSlot = true) : CopyInv (grantCopy b s) := by
  obtain ⟨l, waiting⟩ := (h.slot b).mp slot
  obtain ⟨e, found, row⟩ := table.exists_pending? (b := b) (l := l) (by simp [waiting])
  obtain ⟨old, ⟨c, t, u, r, state⟩, -⟩ := table.of_pending? found
  have operation : copyOperation e = .copyLine l e.source t u := by simp [copyOperation, state, row]
  have after : (Machine.grantCopy b s).mig.state = .copying b l (.running false false) := by
    simp [Machine.grantCopy, found, runCopy, waiting]
  have sections (x : Bank) := grantCopy_section b s x
  simp only [found, operation] at sections
  refine ⟨fun x => ?_, fun x k p y n busy => ?_, fun x k p a run => ?_⟩
  · rw [after, sections]
    refine iff_of_false ?_ (by simp)
    split
    · simp
    · rename_i other
      rw [h.slot_false (fun k engine => ?_)]
      · simp
      · rw [waiting] at engine
        cases engine
        exact other rfl
  · rw [sections] at busy
    split at busy
    · rename_i same
      subst same
      simp only [Phase.busy.injEq, Operation.copyLine.injEq, and_true] at busy
      obtain ⟨rfl, rfl, rfl, rfl⟩ := busy
      refine ⟨⟨false, false, after⟩, c, r, e.origin, ?_⟩
      have whole : (⟨l, .pending c t u r, e.origin⟩ : RemapEntry) = e := by
        rw [← row, ← state]
      rw [whole, grantCopy_remap]
      exact ⟨BankRemap.mem_of_entry? old, rfl⟩
    · exact absurd ⟨k, p, y, n, busy⟩ (h.not_copies fun k p a engine => by simp [waiting] at engine)
  · rw [after] at run
    cases run
    exact ⟨e.source, t, u, by rw [sections]; simp⟩

/-! ### The end of a copy -/

theorem copied_atRest (p : Bool) (b : Bank) (l : LogicalRow) (e : RemapEntry) (n : LineNo) (s : State) :
    (copied p b l e n s).mig.state.atRest := by
  unfold copied
  split
  · exact restedState_atRest p b l
  · trivial

theorem verifyFailed_atRest (p : Bool) (b : Bank) (l : LogicalRow) (e : RemapEntry) (s : State) :
    (verifyFailed p b l e s).mig.state.atRest := by
  unfold verifyFailed
  split
  · split
    · rw [restartMigration_mig]
      exact restedState_atRest p b l
    · trivial
  · trivial

theorem applyAbort_atRest {s : State} {b : Bank} {e : RemapEntry} (found : (s.remap b).pending? = some e)
    (l : LogicalRow) : (applyAbort b l s).mig.state.atRest := by
  rw [applyAbort_of_pending found]
  trivial

/-- The result of a copy leaves the engine without a copy request (R106 to R109, R115). -/
theorem copyEnds_atRest {s : State} {b : Bank} {l : LogicalRow} {p a : Bool} (table : RemapInv s)
    (engine : s.mig.state = .copying b l (.running p a)) (n : LineNo) (v : Bool) :
    (copyEnds n v s).mig.state.atRest := by
  obtain ⟨e, found, -⟩ := table.exists_pending? (b := b) (l := l) (by simp [engine])
  simp only [copyEnds, engine, found]
  split
  · simpa using applyAbort_atRest found l
  · split
    · exact copied_atRest p b l e n s
    · exact verifyFailed_atRest p b l e s

theorem CopyInv.copyEnds {s : State} {b : Bank} {l : LogicalRow} {p : PhysRow} {x : SpareIdx} {n : LineNo}
    (h : CopyInv s) (table : RemapInv s) (busy : delivers s b (.copyLine l p x n)) (v : Bool) :
    CopyInv (copyEnds n v (Sys2Proof.Machine.idleBank b s)) := by
  obtain ⟨⟨park, abort, engine⟩, -⟩ := h.copy b l p x n busy
  have idled : RemapInv (Sys2Proof.Machine.idleBank b s) := table.of_same (by simp) (by simp) (by simp)
  refine .of_rest (copyEnds_atRest (b := b) (l := l) (p := park) (a := abort) idled (by simpa using engine) n v)
    (fun y => ?_) fun y => ?_
  · have := h.slot_false (b := y) fun k waiting => by simp [engine] at waiting
    rw [copyEnds_bank, idleBank_section]
    split
    · rename_i same
      exact same ▸ this
    · exact this
  · rw [copyEnds_bank, idleBank_section]
    split
    · exact BankSection.not_copies_of_idle rfl
    · rename_i other
      refine h.not_copies fun k p a run => other ?_
      rw [engine] at run
      cases run
      rfl

theorem CopyInv.burnPasses {s : State} (h : CopyInv s) (table : RemapInv s) (u : Burn) :
    CopyInv (burnPasses u s) where
  slot b := by simpa using h.slot b
  copy b l p x n busy := by
    obtain ⟨engine, c, k, o, member, source⟩ := h.copy b l p x n (by simpa using busy)
    refine ⟨by simpa using engine, c, k, o, ?_, source⟩
    have old := BankRemap.entry?_of_mem (table.banks b).rows member
    refine BankRemap.mem_of_entry? (l := l) ?_
    rw [burnPasses_tables]
    split
    · rename_i claim
      obtain ⟨rfl, claimed⟩ := claim
      rw [BankRemap.entry?_makePersistent]
      split
      · rename_i same
        subst same
        simp [BankRemap.burnMatches, old] at claimed
      · exact old
    · exact old
  running b l park abort run := by simpa using h.running b l park abort (by simpa using run)

/-! ### Every step -/

theorem copyInv_keptByAll : KeptByAll fun s => RemapInv s ∧ CopyInv s := by
  have table := remapInv_keptByAll
  have kept : Kept fun s => RemapInv s ∧ CopyInv s := by
    constructor
    case beginStart =>
      intro s starting ⟨r, h⟩
      have idle := r.start starting
      exact ⟨table.beginStart s starting r, h.stays (by rw [idle]; trivial)
        (by rw [(beginStart_frame s).2.2.2.2.2.2.2.1, idle]; trivial) (by simp) (by simp)⟩
    case loaded =>
      intro s state ⟨r, h⟩
      have idle := r.start (by simp [state, inStart])
      exact ⟨table.loaded s state r, h.stays (by rw [idle]; trivial) (by simp [idle, EngineState.atRest])
        (by simp) (by simp)⟩
    case started =>
      exact fun s state ⟨r, h⟩ => ⟨table.started s state r, h.of_same (by simp) (by simp) (by simp) (by simp)⟩
    case restarted =>
      exact fun s state ⟨r, h⟩ => ⟨table.restarted s state r, h.of_same (by simp) (by simp) (by simp) (by simp)⟩
    case restarting =>
      exact fun s state ⟨r, h⟩ => ⟨table.restarting s state r, h.of_same (by simp) (by simp) (by simp) (by simp)⟩
    case exited =>
      exact fun s state ⟨r, h⟩ => ⟨table.exited s state r, h.of_same (by simp) (by simp) (by simp) (by simp)⟩
    case entering =>
      exact fun s free state ⟨r, h⟩ =>
        ⟨table.entering s free state r, h.of_same (by simp) (by simp) (by simp) (by simp)⟩
    case leaving =>
      intro s free state ⟨r, h⟩
      refine ⟨table.leaving s free state r, h.of_same (by simp) (fun x => ?_) (fun x => ?_) (by simp)⟩
      · rw [leaving_section, leaveRetained]
        split <;> rfl
      · rw [leaving_section, leaveRetained]
        split
        · rename_i retained
          exact .inr ⟨BankSection.not_copies_of_idle rfl, by simp [BankSection.copies, retained]⟩
        · exact .inl rfl
    case charge =>
      intro s ⟨r, h⟩
      refine ⟨table.charge s r, h.of_same (by simp) (fun x => ?_) (fun x => .inl ?_) (by simp)⟩ <;>
      · rw [State.bank_mapBanks, chargeRefresh]
        split <;> rfl
    case grantHost =>
      exact fun s b q idle slot ⟨r, h⟩ => ⟨table.grantHost s b q idle slot r,
        h.of_section (by simp) (grantHost_section b q s) rfl
          (.inr ⟨by simp [BankSection.copies, hostOperation_ne_copyLine], BankSection.not_copies_of_idle idle⟩)
          (by simp)⟩
    case grantCopy => exact fun s b idle slot ⟨r, h⟩ => ⟨table.grantCopy s b idle slot r, h.grantCopy r slot⟩
    case grantStep =>
      exact fun s b q idle slot ⟨r, h⟩ => ⟨table.grantStep s b q idle slot r,
        h.of_section (by simp) (grantStep_section b q s) rfl
          (.inr ⟨by simp [BankSection.copies], BankSection.not_copies_of_idle idle⟩) (by simp)⟩
    case grantClear =>
      exact fun s b q idle slot ⟨r, h⟩ => ⟨table.grantClear s b q idle slot r,
        h.of_section (by simp) (grantClear_section b q s) rfl
          (.inr ⟨by simp [BankSection.copies], BankSection.not_copies_of_idle idle⟩) (by simp)⟩
    case grantRefresh =>
      exact fun s b idle ⟨r, h⟩ => ⟨table.grantRefresh s b idle r,
        h.of_section (by simp) (grantRefresh_section b s) rfl
          (.inr ⟨by simp [BankSection.copies], BankSection.not_copies_of_idle idle⟩) (by simp)⟩
    case discardStep =>
      exact fun s b q idle slot ⟨r, h⟩ => ⟨table.discardStep s b q idle slot r,
        h.of_section (by simp) (discardStep_section b s) rfl (.inl rfl) (by simp)⟩
    case retainBank =>
      intro s b may ⟨r, h⟩
      have idle : (s.bank b).phase = .idle := by simp_all [mayRetain]
      exact ⟨table.retainBank s b may r, h.of_section (by simp) (retainBank_section b s) rfl
        (.inr ⟨by simp [BankSection.copies], BankSection.not_copies_of_idle idle⟩) (by simp)⟩
    case idled => exact fun s b op busy ⟨r, h⟩ => ⟨table.idled s b op busy r, h.idleBank busy (.inl rfl)⟩
    case refreshEnds =>
      exact fun s b busy ⟨r, h⟩ => ⟨table.refreshEnds s b busy r, h.idleBank busy (.inr (by simp))⟩
    case requestEnds =>
      intro s b op q o f w busy request ⟨r, h⟩
      refine ⟨table.requestEnds s b op q o f w busy request r, (h.idleBank busy (.inr fun l p x n same => ?_)).of_same
        (by simp) (by simp) (by simp) (by simp)⟩
      simp [same, Operation.request?] at request
    case stepEnds =>
      exact fun s b rows n l busy ⟨r, h⟩ => ⟨table.stepEnds s b rows n l busy r,
        (h.idleBank busy (.inr (by simp))).of_same (by simp) (by simp) (by simp) (by simp)⟩
    case copyEnds =>
      exact fun s b l p x n v busy ⟨r, h⟩ => ⟨table.copyEnds s b l p x n v busy r, h.copyEnds r busy v⟩
    case clearLineEnds =>
      intro s b row n busy ⟨r, h⟩
      refine ⟨table.clearLineEnds s b row n busy r, (h.idleBank busy (.inr (by simp))).of_same (by simp)
        (fun x => ?_) (fun x => .inl ?_) (by simp)⟩ <;>
      · rw [clearLineEnds_section]
        split
        · rename_i same
          rw [same.1]
        · rfl
    case requestPlaced =>
      exact fun s g held takes ⟨r, h⟩ => ⟨table.requestPlaced s g held takes r,
        h.of_section (by simp) (requestPlaced_section g.request s) rfl (.inl rfl) (by simp)⟩
    case copyPlaced => exact fun s b l engine ⟨r, h⟩ => ⟨table.copyPlaced s b l engine r, h.copyPlaced engine⟩
    case clearPlaced =>
      exact fun s b p place ⟨r, h⟩ => ⟨table.clearPlaced s b p place r,
        h.of_section (by simp) (clearPlaced_section b p s) rfl (.inl rfl) (by simp)⟩
    case stepPlaced =>
      exact fun s p none ⟨r, h⟩ => ⟨table.stepPlaced s p none r,
        h.of_section (by simp) (stepPlaced_section p s) rfl (.inl rfl) (by simp)⟩
    case startOn =>
      intro s b l x started idle free ⟨r, h⟩
      refine ⟨table.startOn s b l x started idle free r, h.stays (by rw [idle]; trivial) ?_ (by simp) (by simp)⟩
      rw [startOn_mig]
      exact startState_atRest s b l
    case park => exact fun s ⟨r, h⟩ => ⟨table.park s r, h.park⟩
    case unpark => exact fun s ⟨r, h⟩ => ⟨table.unpark s r, h.unpark⟩
    case burnPasses => exact fun s u burn ⟨r, h⟩ => ⟨table.burnPasses s u burn r, h.burnPasses r u⟩
    case clearBegun =>
      intro s free ready none ⟨r, h⟩
      refine ⟨table.clearBegun s free ready none r, h.of_same (by simp) (fun x => ?_) (fun x => .inl ?_) (by simp)⟩ <;>
      · rw [beginClear_section, withdrawStepOf_section]
        split
        · rename_i same
          subst same
          split <;> rfl
        · rfl
    case abortAtRest =>
      intro s b l engine ⟨r, h⟩
      obtain ⟨e, found, -⟩ := r.exists_pending? (b := b) (l := l) (by rcases engine with e | e <;> simp [e])
      exact ⟨table.abortAtRest s b l engine r, h.stays (by rcases engine with e | e <;> rw [e] <;> trivial)
        (applyAbort_atRest found l) (by simp) (by simp)⟩
    case abortWaiting =>
      intro s b l engine ⟨r, h⟩
      obtain ⟨e, found, -⟩ := r.exists_pending? (b := b) (l := l) (by simp [engine])
      exact ⟨table.abortWaiting s b l engine r, h.withdrawn engine
        (applyAbort_atRest (s := withdrawCopy b s) (by simpa using found) l) (by simp)⟩
    case abortBegun =>
      exact fun s b l p a free engine ⟨r, h⟩ => ⟨table.abortBegun s b l p a free engine r,
        h.marked engine rfl (by simp) (by simp)⟩
    case withdrawStep | restartCursor =>
      intro s ⟨r, h⟩
      refine ⟨r.of_same (by simp) (by simp) (by simp),
        h.of_same (by simp) (fun x => ?_) (fun x => .inl ?_) (by simp)⟩ <;>
      · simp only [withdrawStep_section, restartCursor_section]
        split <;> rfl
    case storeRmpSelect =>
      exact fun s w ⟨r, h⟩ => ⟨table.storeRmpSelect s w r, h.of_same (by simp) (by simp) (by simp) fun _ => rfl⟩
    case storeConfig =>
      exact fun s w ⟨r, h⟩ => ⟨table.storeConfig s w r, h.of_same (by simp) (by simp) (by simp) (by simp)⟩
    all_goals
      rintro s
      intros
      rename_i both
      exact ⟨both.1.of_same (by simp) (by simp) (by simp), both.2.of_same (by simp) (by simp) (by simp) (by simp)⟩
  have silent (k : BankSection) : ¬(resetBank k).copies := by
    cases phase : k.phase <;> simp [BankSection.copies, resetBank, phase]
  apply KeptByAll.mk kept
  case applyPower =>
    intro s off ⟨r, h⟩
    refine ⟨table.applyPower s off r, .of_rest trivial (fun b => ?_) fun b => ?_⟩ <;>
    · rw [State.bank_powered, powerOnValues_bank]
      simp [BankSection.initial, BankSection.copies]
  case losePower =>
    intro s ⟨r, h⟩
    refine ⟨table.losePower s r, .of_rest trivial (fun b => ?_) fun b => ?_⟩ <;>
    · rw [State.bank_powered, powerOnValues_bank]
      simp [BankSection.initial, BankSection.copies]
  case warmReset =>
    exact fun s ⟨r, h⟩ => ⟨table.warmReset s r, .of_rest trivial (fun b => by rw [warmReset_bank]; rfl)
      fun b => by rw [warmReset_bank]; exact silent _⟩
  case lines =>
    intro s t keeps wf ⟨r, h⟩
    obtain ⟨rmp, mig, banks⟩ : t.rmp = s.rmp ∧ t.mig = s.mig ∧ t.banks = s.banks := by simp_all [keepsAllBut_iff]
    exact ⟨table.lines s t keeps wf r, h.of_same (by rw [mig]) (by simp [State.bank_congr banks])
      (by simp [State.bank_congr banks]) (by simp [State.remap_congr rmp])⟩
  case lowered =>
    exact fun s b busy ⟨r, h⟩ => ⟨table.lowered s b busy r,
      h.of_section (by simp) (fun x => s.bank_setBank ..) rfl (.inl rfl) (by simp)⟩
  all_goals
    intros
    rename_i both
    exact ⟨both.1.of_same (by simp) (by simp) (by simp), both.2.of_same (by simp) (by simp) (by simp) (by simp)⟩

/-- Settles O55: each claim changes the entry of one row and the spares it names, and the engine's copy request
moves with the slot and the operation that carry it. -/
theorem stepKeepsTheRemapTableSound : Obligations.StepKeepsTheRemapTableSound :=
  ⟨fun _ _ table stepped => remapInv_keptByAll.step stepped table,
    fun _ _ table copy stepped => (copyInv_keptByAll.step stepped ⟨table, copy⟩).2⟩

end Sys2Proof.Machine
end

section
/-! Fault records: the slots after the start and the end of a migration, records distinct, and a MIGRATING one that
of the migration's source (R122, R123). -/

namespace Sys2Proof.Machine

/-! ### Slots after the start and the end of a migration (R100, R130) -/

namespace FaultTable

theorem slot_take (f : FaultTable) (b : Bank) (p : PhysRow) (j : Fin 32) :
    (f.take b p).slot j = if f.slotOf? b p = some j then (f.slot j).map fun r => { r with state := .migrating }
      else f.slot j := by
  unfold take
  cases found : f.slotOf? b p with
  | none => simp
  | some i =>
    simp only [slot_leave, slot_setSlot, Option.some.injEq, eq_comm (a := i)]
    split
    · rename_i same
      rw [same]
    · rfl

theorem slot_release (f : FaultTable) (v : RecordState) (j : Fin 32) :
    (f.release v).slot j = if f.migratingSlot? = some j then (f.slot j).map fun r => { r with state := v }
      else f.slot j := by
  unfold release
  cases found : f.migratingSlot? with
  | none => simp
  | some i =>
    simp only [slot_setSlot, Option.some.injEq, eq_comm (a := i)]
    split
    · rename_i same
      rw [same]
    · rfl

theorem slot_atCommit (f : FaultTable) (j : Fin 32) :
    f.atCommit.slot j = if f.migratingSlot? = some j then none else f.slot j := by
  unfold atCommit
  cases found : f.migratingSlot? with
  | none => simp
  | some i => simp [removeSlot, slot_setSlot, eq_comm]

theorem slot_atAbort (f : FaultTable) (j : Fin 32) : f.atAbort.slot j = (f.release .candidate).slot j := by
  unfold atAbort
  cases found : f.migratingSlot? with
  | none => simp [slot_release, found]
  | some i => rfl

theorem slot_atReset (f : FaultTable) (j : Fin 32) : f.atReset.slot j = (f.release .candidate).slot j := by
  unfold atReset
  cases found : f.migratingSlot? with
  | none =>
    rw [slot_release, found]
    rfl
  | some i => rfl

/-- A record counted in its slot, and promoted where it is due (R125, R128). -/
theorem slot_countIn (f : FaultTable) (i : Fin 32) (r : FaultRecord) (n : Notice) (now : BitVec 16)
    (threshold : Fin 16) (j : Fin 32) : (f.countIn i r n now threshold).slot j =
      if j = i then some { r.count n now with
        state := if (r.count n now).promoted n threshold then .candidate else r.state }
      else f.slot j := by
  unfold countIn
  dsimp only
  split
  · exact f.slot_setSlot i j _
  · exact f.slot_setSlot i j _

/-! ### Distinct records -/

/-- No two records of one bank and row (R122). -/
def Distinct (f : FaultTable) : Prop := ∀ (i j : Fin 32) (r q : FaultRecord),
  f.slot i = some r → f.slot j = some q → r.bank = q.bank → r.row = q.row → i = j

/-- The records of `g` are records of `f` of the same bank and row, and none is newly MIGRATING. -/
def Fewer (f g : FaultTable) : Prop := ∀ (i : Fin 32) (r : FaultRecord), g.slot i = some r →
  ∃ q, f.slot i = some q ∧ q.bank = r.bank ∧ q.row = r.row ∧ (r.state = .migrating → q.state = .migrating)

/-- No record is MIGRATING. -/
def NoneMigrating (f : FaultTable) : Prop := ∀ (i : Fin 32) (r : FaultRecord), f.slot i = some r →
  r.state ≠ .migrating

variable {f g : FaultTable}

theorem Distinct.of_fewer (h : f.Distinct) (fewer : f.Fewer g) : g.Distinct := by
  intro i j r q hr hq bank row
  obtain ⟨r', hr', bank₁, row₁, -⟩ := fewer i r hr
  obtain ⟨q', hq', bank₂, row₂, -⟩ := fewer j q hq
  exact h i j r' q' hr' hq' (by rw [bank₁, bank₂, bank]) (by rw [row₁, row₂, row])

theorem Fewer.of_slot (h : ∀ i, g.slot i = f.slot i) : f.Fewer g := fun i r hr =>
  ⟨r, (h i) ▸ hr, rfl, rfl, id⟩

theorem fewer_keep (f : FaultTable) (test : FaultRecord → Bool) : f.Fewer (f.keep test) := by
  intro i r hr
  rw [slot_keep] at hr
  exact ⟨r, (Option.filter_eq_some_iff.mp hr).1, rfl, rfl, id⟩

theorem fewer_clearBank (f : FaultTable) (b : Bank) : f.Fewer (f.clearBank b) := f.fewer_keep _

theorem fewer_removeSlot (f : FaultTable) (i : Fin 32) : f.Fewer (f.removeSlot i) := by
  intro j r hr
  rw [removeSlot, slot_leave, slot_setSlot] at hr
  split at hr
  · cases hr
  · exact ⟨r, hr, rfl, rfl, id⟩

theorem fewer_release (f : FaultTable) (v : RecordState) : f.Fewer (f.release v) := by
  intro j r hr
  rw [slot_release] at hr
  split at hr
  · rename_i found
    obtain ⟨q, hq, state⟩ := slot_of_migratingSlot? found
    rw [hq] at hr
    cases hr
    exact ⟨q, hq, rfl, rfl, fun _ => state⟩
  · exact ⟨r, hr, rfl, rfl, id⟩

theorem fewer_atCommit (f : FaultTable) : f.Fewer f.atCommit := by
  intro j r hr
  rw [slot_atCommit] at hr
  split at hr
  · cases hr
  · exact ⟨r, hr, rfl, rfl, id⟩

/-- With one MIGRATING record, its release leaves none (R123). -/
theorem noneMigrating_release {v : RecordState} (other : v ≠ .migrating)
    (one : ∀ i j r q, f.slot i = some r → r.state = .migrating → f.slot j = some q → q.state = .migrating →
      i = j) : (f.release v).NoneMigrating := by
  intro j r hr state
  rw [slot_release] at hr
  split at hr
  · obtain ⟨q, -, rfl⟩ := Option.map_eq_some_iff.mp hr
    exact other state
  · rename_i missed
    cases found : f.migratingSlot? with
    | none => exact migratingSlot?_eq_none_iff.mp found j r hr state
    | some i =>
      obtain ⟨q, hq, moving⟩ := slot_of_migratingSlot? found
      exact missed (one i j q r hq moving hr state ▸ found)

theorem noneMigrating_atCommit
    (one : ∀ i j r q, f.slot i = some r → r.state = .migrating → f.slot j = some q → q.state = .migrating →
      i = j) : f.atCommit.NoneMigrating := by
  intro j r hr state
  rw [slot_atCommit] at hr
  split at hr
  · cases hr
  · rename_i missed
    cases found : f.migratingSlot? with
    | none => exact migratingSlot?_eq_none_iff.mp found j r hr state
    | some i =>
      obtain ⟨q, hq, moving⟩ := slot_of_migratingSlot? found
      exact missed (one i j q r hq moving hr state ▸ found)

end FaultTable

/-! ### The record of the migration's source -/

/-- Without a MIGRATING record. -/
theorem RecordInv.of_none {t : State} (distinct : t.frt.Distinct) (none : t.frt.NoneMigrating) : RecordInv t :=
  ⟨distinct, fun i r hr state => absurd state (none i r hr)⟩

/-- Records removed or released, and the migration in progress and its source as before. -/
theorem RecordInv.weaken {s t : State} (h : RecordInv s) (fewer : s.frt.Fewer t.frt)
    (source : ∀ b l, s.mig.state.moves b l →
      t.mig.state.moves b l ∧ (t.remap b).sourceOf l = (s.remap b).sourceOf l) : RecordInv t where
  distinct := FaultTable.Distinct.of_fewer h.distinct fewer
  migrating i r hr state := by
    obtain ⟨q, hq, bank, row, moving⟩ := fewer i r hr
    obtain ⟨l, moves, at_source⟩ := h.migrating i q hq (moving state)
    rw [bank] at moves at_source
    exact ⟨l, (source _ _ moves).1, by rw [(source _ _ moves).2, ← at_source, row]⟩

theorem RecordInv.of_same {s t : State} (h : RecordInv s) (frt : t.frt.slots = s.frt.slots)
    (moves : ∀ b l, t.mig.state.moves b l ↔ s.mig.state.moves b l) (remap : ∀ b, t.remap b = s.remap b) :
    RecordInv t :=
  h.weaken (.of_slot fun i => by simp [FaultTable.slot, frt])
    fun b l moving => ⟨(moves b l).mpr moving, by rw [remap]⟩

theorem RecordInv.distinctRecords {s : State} (h : RecordInv s) : s.frt.Distinct := h.distinct

/-- Two MIGRATING records are the same (R123). -/
theorem RecordInv.one {s : State} (h : RecordInv s) (i j : Fin 32) (r q : FaultRecord)
    (hr : s.frt.slot i = some r) (moving : r.state = .migrating) (hq : s.frt.slot j = some q)
    (moving' : q.state = .migrating) : i = j := by
  obtain ⟨l, at_r, source⟩ := h.migrating i r hr moving
  obtain ⟨k, at_q, source'⟩ := h.migrating j q hq moving'
  obtain ⟨bank, row⟩ := EngineState.moves_unique at_q at_r
  exact h.distinct i j r q hr hq bank (by rw [source, source', bank, row])

theorem RecordInv.noneMigrating {s : State} (h : RecordInv s) (idle : s.mig.state = .idle) :
    s.frt.NoneMigrating := fun i r hr state => by
  obtain ⟨l, moves, -⟩ := h.migrating i r hr state
  rw [idle] at moves
  exact moves

theorem sourceOf_of_entry? {m : BankRemap} {l : LogicalRow} {e : RemapEntry} (h : m.entry? l = some e) :
    m.sourceOf l = e.source := by simp only [BankRemap.sourceOf, h]

theorem RemapEntry.source_congr {e d : RemapEntry} (row : d.row = e.row) (current : d.current = e.current) :
    d.source = e.source := by simp only [RemapEntry.source, row, current]

/-- The source of a row whose entry changes but keeps its current spare. -/
theorem sourceOf_setEntry {m m' : BankRemap} {e d : RemapEntry} (old : m.entry? e.row = some e)
    (entry : ∀ k, m'.entry? k = if k = e.row then some d else m.entry? k) (row : d.row = e.row)
    (current : d.current = e.current) (k : LogicalRow) : m'.sourceOf k = m.sourceOf k := by
  by_cases same : k = e.row
  · rw [same, sourceOf_of_entry? old, sourceOf_of_entry? (by rw [entry, if_pos rfl])]
    exact RemapEntry.source_congr row current
  · simp only [BankRemap.sourceOf, entry, same, if_false]

/-- Creating an entry leaves the row where it is (R85). -/
theorem sourceOf_create (m : BankRemap) (l : LogicalRow) (t : SpareIdx) (k : LogicalRow) :
    (m.create l t).sourceOf k = m.sourceOf k := by
  simp only [BankRemap.sourceOf, BankRemap.entry?_create]
  by_cases same : k = l
  · subst same
    cases old : m.entry? k with
    | none => simp [RemapEntry.source]
    | some e =>
      simp only [if_true]
      rfl
  · simp [same]

theorem FaultTable.take_cases {f : FaultTable} {b : Bank} {p : PhysRow} {i : Fin 32} {r : FaultRecord}
    (h : (f.take b p).slot i = some r) :
    ∃ q, f.slot i = some q ∧ q.bank = r.bank ∧ q.row = r.row ∧
      (r.state = q.state ∨ r.bank = b ∧ r.row = p) := by
  rw [FaultTable.slot_take] at h
  split at h
  · rename_i found
    obtain ⟨q, hq, bank, row⟩ := FaultTable.slot_of_slotOf? found
    rw [hq] at h
    cases h
    exact ⟨q, hq, rfl, rfl, .inr ⟨bank, row⟩⟩
  · exact ⟨r, h, rfl, rfl, .inl rfl⟩

theorem RecordInv.startOn {s : State} (h : RecordInv s) (idle : s.mig.state = .idle) (b : Bank)
    (l : LogicalRow) (x : SpareIdx) : RecordInv (startOn b l x s) := by
  have frt : (Machine.startOn b l x s).frt = s.frt.take b ((s.remap b).sourceOf l) := by
    simp [Machine.startOn]
  constructor
  · intro i j r q hr hq bank row
    rw [frt] at hr hq
    obtain ⟨r', hr', bank₁, row₁, -⟩ := FaultTable.take_cases hr
    obtain ⟨q', hq', bank₂, row₂, -⟩ := FaultTable.take_cases hq
    exact h.distinct i j r' q' hr' hq' (by rw [bank₁, bank₂, bank]) (by rw [row₁, row₂, row])
  · intro i r hr state
    rw [frt] at hr
    obtain ⟨q, hq, -, -, same | ⟨rfl, row⟩⟩ := FaultTable.take_cases hr
    · exact absurd (same ▸ state) (h.noneMigrating idle i q hq)
    · refine ⟨l, by rw [startOn_mig]; exact (startState_moves ..).mpr ⟨rfl, rfl⟩, ?_⟩
      rw [startOn_tables, if_pos rfl, sourceOf_create, row]

theorem RecordInv.ended {s t : State} (h : RecordInv s)
    (frt : t.frt = s.frt.atCommit ∨ t.frt = s.frt.atFailure ∨ t.frt = s.frt.atAbort ∨ t.frt = s.frt.atReset) :
    RecordInv t := by
  have abort : (s.frt.release .candidate).NoneMigrating :=
    FaultTable.noneMigrating_release (by simp) h.one
  have fewer := s.frt.fewer_release .candidate
  have distinct : s.frt.Distinct := h.distinct
  rcases frt with frt | frt | frt | frt
  · exact .of_none (frt ▸ distinct.of_fewer s.frt.fewer_atCommit) (frt ▸ FaultTable.noneMigrating_atCommit h.one)
  · exact .of_none (frt ▸ distinct.of_fewer (s.frt.fewer_release _))
      (frt ▸ FaultTable.noneMigrating_release (by simp) h.one)
  · refine .of_none (distinct.of_fewer fun i r hr => fewer i r ?_) fun i r hr => abort i r ?_ <;>
    · rwa [frt, FaultTable.slot_atAbort] at hr
  · refine .of_none (distinct.of_fewer fun i r hr => fewer i r ?_) fun i r hr => abort i r ?_ <;>
    · rwa [frt, FaultTable.slot_atReset] at hr

theorem RecordInv.applyAbort {s : State} (h : RecordInv s) (b : Bank) (l : LogicalRow) :
    RecordInv (applyAbort b l s) := by
  cases found : (s.remap b).pending? with
  | none => simpa [Machine.applyAbort, found] using h
  | some e => exact h.ended (.inr (.inr (.inl (by simp [applyAbort_of_pending found]))))

theorem RecordInv.copied {s : State} (h : RecordInv s) (table : RemapInv s) {b : Bank} {l : LogicalRow}
    {e : RemapEntry} (found : (s.remap b).pending? = some e) (row : e.row = l) (p : Bool) (n : LineNo) :
    RecordInv (copied p b l e n s) := by
  obtain ⟨old, ⟨c, t, u, r, state⟩, moves⟩ := table.of_pending? found
  unfold Machine.copied
  split
  · refine h.weaken (.of_slot fun i => by simp) fun x k moving => ?_
    obtain ⟨rfl, rfl⟩ := EngineState.moves_unique moves moving
    refine ⟨by rw [afterCopy_mig, restedState_moves]; exact ⟨rfl, row.symm⟩, ?_⟩
    rw [afterCopy_remap, State.remap_setRemap, if_pos rfl]
    exact sourceOf_setEntry old (BankRemap.entry?_advance old state n) rfl
      (by simp [RemapEntry.current, state]) _
  · exact h.ended (.inl (by simp [commitMigration]))

theorem RecordInv.verifyFailed {s : State} (h : RecordInv s) (table : RemapInv s) {b : Bank} {l : LogicalRow}
    {e : RemapEntry} (found : (s.remap b).pending? = some e) (row : e.row = l) (p : Bool) :
    RecordInv (verifyFailed p b l e s) := by
  obtain ⟨old, ⟨c, t, u, r, state⟩, moves⟩ := table.of_pending? found
  have failed : RecordInv (failMigration b l e s) := h.ended (.inr (.inl (by simp [failMigration])))
  unfold Machine.verifyFailed
  split
  · rename_i t' free
    split
    · refine h.weaken (.of_slot fun i => by simp) fun x k moving => ?_
      obtain ⟨rfl, rfl⟩ := EngineState.moves_unique moves moving
      refine ⟨by rw [restartMigration_mig, restedState_moves]; exact ⟨rfl, row.symm⟩, ?_⟩
      rw [restartMigration_tables, if_pos rfl]
      exact sourceOf_setEntry old (BankRemap.entry?_restart old state t') rfl
        (by simp [RemapEntry.current, state]) _
    · exact failed
  · exact failed

theorem RecordInv.copyEnds {s : State} (h : RecordInv s) (table : RemapInv s) (n : LineNo) (v : Bool) :
    RecordInv (copyEnds n v s) := by
  unfold Machine.copyEnds
  split
  · rename_i b l p a engine
    split
    · exact (h.applyAbort b l).of_same (by simp) (by simp) (by simp)
    · split
      · rename_i e found
        have row : e.row = l := by
          have moves := (table.of_pending? found).2.2
          rw [engine] at moves
          exact moves.2.symm
        split
        · exact h.copied table found row p n
        · exact h.verifyFailed table found row p
      · exact h
  all_goals exact h

/-- A bank's table names the source of the migration in progress (R87, R89). -/
theorem RemapInv.of_isSource {s : State} (h : RemapInv s) {b : Bank} {p : PhysRow}
    (source : (s.remap b).isSource p = true) :
    ∃ l, s.mig.state.moves b l ∧ p = (s.remap b).sourceOf l := by
  unfold BankRemap.isSource at source
  split at source
  · rename_i e found
    obtain ⟨old, -, moves⟩ := h.of_pending? found
    exact ⟨e.row, moves, by rw [sourceOf_of_entry? old, ← beq_iff_eq.mp source]⟩
  · cases source

theorem RecordInv.countIn {s : State} (h : RecordInv s) (table : RemapInv s) {n : Notice} {i : Fin 32}
    {r : FaultRecord}
    (placed : s.frt.place? n s.ptl.pass ((s.remap n.bank).isSource n.row) = some (i, r)) :
    RecordInv (s.setFrt (s.frt.countIn i r n s.ptl.pass s.hpt.threshold)) := by
  obtain ⟨slot, -⟩ | ⟨rfl, unknown, -⟩ := place?_cases placed
  · refine h.weaken (fun j q hq => ?_) fun b l moves => ⟨by simpa using moves, by simp⟩
    rw [State.setFrt_frt, FaultTable.slot_countIn] at hq
    split at hq
    · rename_i same
      cases hq
      refine ⟨r, same ▸ slot, rfl, rfl, fun moving => ?_⟩
      dsimp only at moving
      split at moving
      · cases moving
      · exact moving
    · exact ⟨q, hq, rfl, rfl, id⟩
  · have others (j : Fin 32) (q : FaultRecord) (hq : s.frt.slot j = some q) : ¬(q.bank = n.bank ∧ q.row = n.row) :=
      FaultTable.slotOf?_eq_none_iff.mp unknown j q hq
    constructor
    · intro j k q p hq hp bank row
      rw [State.setFrt_frt, FaultTable.slot_countIn] at hq hp
      split at hq <;> split at hp
      · simp_all
      · cases hq
        exact absurd ⟨bank.symm, row.symm⟩ (others k p hp)
      · cases hp
        exact absurd ⟨bank, row⟩ (others j q hq)
      · exact h.distinct j k q p hq hp bank row
    · intro j q hq moving
      rw [State.setFrt_frt, FaultTable.slot_countIn] at hq
      split at hq
      · cases hq
        dsimp only at moving
        split at moving
        · cases moving
        · have source : (s.remap n.bank).isSource n.row = true := by simpa [newRecord] using moving
          exact table.of_isSource source
      · exact h.migrating j q hq moving

theorem RecordInv.receiveNotice {s : State} (h : RecordInv s) (table : RemapInv s) (n : Notice) :
    RecordInv (receiveNotice n s) := by
  unfold Machine.receiveNotice
  split
  · split
    · rename_i i r placed
      exact h.countIn table placed
    · exact h.of_same (by simp) (by simp) (by simp)
  · exact h

theorem RecordInv.decayed {s t : State} (h : RecordInv s) {now : BitVec 16} (frt : t.frt = s.frt.decay now)
    (mig : t.mig = s.mig) (remap : ∀ b, t.remap b = s.remap b) : RecordInv t :=
  h.weaken (by rw [frt]; exact s.frt.fewer_keep _) fun b l moves => ⟨mig ▸ moves, by rw [remap]⟩

theorem RecordInv.advanceCursor {s : State} (h : RecordInv s) (p : Position) :
    RecordInv (advanceCursor p s) := by
  unfold Machine.advanceCursor
  split
  · exact h.of_same (by simp) (by simp) (by simp)
  · exact h.decayed (now := s.ptl.pass + 1) (by simp [passEnd]) (by simp) (by simp)

theorem RecordInv.stepEnds {s : State} (h : RecordInv s) : RecordInv (stepEnds s) := by
  have forgotten : RecordInv (forgetStep s) := h.of_same (by simp) (by simp) (by simp)
  unfold Machine.stepEnds
  split
  · exact h
  · exact forgotten.advanceCursor _
  · split
    · exact forgotten
    · exact forgotten.advanceCursor _

theorem RecordInv.burnPasses {s : State} (h : RecordInv s) (u : Burn) : RecordInv (burnPasses u s) := by
  refine h.weaken (.of_slot fun i => by simp) fun b l moves => ⟨by simpa using moves, ?_⟩
  rw [burnPasses_tables]
  split
  · rename_i claim
    rw [claim.1]
    simp only [BankRemap.sourceOf, BankRemap.entry?_makePersistent]
    by_cases same : l = u.row
    · simp only [same, if_true]
      cases (s.remap u.bank).entry? u.row <;> rfl
    · simp only [same, if_false]
  · rfl

/-! ### Every step -/

theorem recordInv_keptByAll : KeptByAll fun s => RemapInv s ∧ RecordInv s := by
  have table := remapInv_keptByAll
  have kept : Kept fun s => RemapInv s ∧ RecordInv s := by
    constructor
    case beginStart =>
      exact fun s starting ⟨r, h⟩ => ⟨table.beginStart s starting r,
        .of_none (by simpa using h.distinctRecords) (by simpa using h.noneMigrating (r.start starting))⟩
    case loaded =>
      exact fun s state ⟨r, h⟩ => ⟨table.loaded s state r, .of_none (by simpa using h.distinctRecords)
        (by simpa using h.noneMigrating (r.start (by simp [state, inStart])))⟩
    case started =>
      exact fun s state ⟨r, h⟩ => ⟨table.started s state r, h.of_same (by simp) (by simp) (by simp)⟩
    case restarted =>
      exact fun s state ⟨r, h⟩ => ⟨table.restarted s state r, h.of_same (by simp) (by simp) (by simp)⟩
    case restarting =>
      exact fun s state ⟨r, h⟩ => ⟨table.restarting s state r, h.of_same (by simp) (by simp) (by simp)⟩
    case exited => exact fun s state ⟨r, h⟩ => ⟨table.exited s state r, h.of_same (by simp) (by simp) (by simp)⟩
    case entering =>
      exact fun s free state ⟨r, h⟩ => ⟨table.entering s free state r, h.of_same (by simp) (by simp) (by simp)⟩
    case leaving =>
      exact fun s free state ⟨r, h⟩ => ⟨table.leaving s free state r, h.of_same (by simp) (by simp) (by simp)⟩
    case grantCopy =>
      exact fun s b idle slot ⟨r, h⟩ => ⟨table.grantCopy s b idle slot r,
        h.of_same (by simp) (grantCopy_moves b s) (by simp)⟩
    case retainBank =>
      exact fun s b may ⟨r, h⟩ => ⟨table.retainBank s b may r, h.of_same (by simp) (by simp) (by simp)⟩
    case discardStep =>
      exact fun s b q idle slot ⟨r, h⟩ => ⟨table.discardStep s b q idle slot r,
        RecordInv.stepEnds (h.of_same (by simp) (by simp) (by simp))⟩
    case stepEnds =>
      exact fun s b rows n l busy ⟨r, h⟩ => ⟨table.stepEnds s b rows n l busy r,
        RecordInv.stepEnds (h.of_same (by simp) (by simp) (by simp))⟩
    case copyEnds =>
      exact fun s b l p x n v busy ⟨r, h⟩ => ⟨table.copyEnds s b l p x n v busy r,
        RecordInv.copyEnds (h.of_same (by simp) (by simp) (by simp)) (r.of_same (by simp) (by simp) (by simp)) n v⟩
    case receiveNotice => exact fun n s ⟨r, h⟩ => ⟨table.receiveNotice n s r, h.receiveNotice r n⟩
    case copyPlaced =>
      exact fun s b l engine ⟨r, h⟩ => ⟨table.copyPlaced s b l engine r,
        h.of_same (by simp) (by simp [copyPlaced, engine]) (by simp)⟩
    case passEnd =>
      exact fun s none ⟨r, h⟩ => ⟨table.passEnd s none r,
        h.decayed (now := s.ptl.pass + 1) (by simp [passEnd]) (by simp) (by simp)⟩
    case startOn =>
      exact fun s b l x started idle free ⟨r, h⟩ => ⟨table.startOn s b l x started idle free r, h.startOn idle b l x⟩
    case park => exact fun s ⟨r, h⟩ => ⟨table.park s r, h.of_same (by simp) (park_moves s) (by simp)⟩
    case unpark => exact fun s ⟨r, h⟩ => ⟨table.unpark s r, h.of_same (by simp) (unpark_moves s) (by simp)⟩
    case burnPasses => exact fun s u burn ⟨r, h⟩ => ⟨table.burnPasses s u burn r, h.burnPasses u⟩
    case clearBegun =>
      exact fun s free ready none ⟨r, h⟩ => ⟨table.clearBegun s free ready none r,
        h.weaken (by simpa [beginClear] using s.frt.fewer_clearBank _) fun b l moves => ⟨by simpa using moves, by simp⟩⟩
    case abortAtRest =>
      exact fun s b l engine ⟨r, h⟩ => ⟨table.abortAtRest s b l engine r, h.applyAbort b l⟩
    case abortWaiting =>
      exact fun s b l engine ⟨r, h⟩ => ⟨table.abortWaiting s b l engine r,
        RecordInv.applyAbort (h.of_same (by simp) (by simp) (by simp)) b l⟩
    case abortBegun =>
      exact fun s b l p a free engine ⟨r, h⟩ => ⟨table.abortBegun s b l p a free engine r,
        h.of_same (by simp) (by simp [engine]) (by simp)⟩
    case recordDropped =>
      exact fun s i q slot state ⟨r, h⟩ => ⟨table.recordDropped s i q slot state r,
        h.weaken (s.frt.fewer_removeSlot i) fun b l moves => ⟨moves, rfl⟩⟩
    case storeRmpSelect =>
      exact fun s w ⟨r, h⟩ => ⟨table.storeRmpSelect s w r, h.of_same (by simp) (by simp) fun _ => rfl⟩
    case storeConfig =>
      exact fun s w ⟨r, h⟩ => ⟨table.storeConfig s w r, h.of_same (by simp) (by simp) (by simp)⟩
    case storeFrtSelect =>
      exact fun s w ⟨r, h⟩ => ⟨table.storeFrtSelect s w r, h.of_same rfl (by simp) (by simp)⟩
    case readEntryA => exact fun s ⟨r, h⟩ => ⟨table.readEntryA s r, h.of_same rfl (by simp) (by simp)⟩
    all_goals
      rintro s
      intros
      rename_i both
      exact ⟨both.1.of_same (by simp) (by simp) (by simp), both.2.of_same (by simp) (by simp) (by simp)⟩
  have empty : State.reset.frt.NoneMigrating ∧ State.reset.frt.Distinct := by
    constructor
    · intro i r hr
      simp [State.reset, FaultTable.slot] at hr
    · intro i j r q hr
      simp [State.reset, FaultTable.slot] at hr
  apply KeptByAll.mk kept
  case applyPower => exact fun s off ⟨r, h⟩ => ⟨table.applyPower s off r, .of_none empty.2 empty.1⟩
  case losePower => exact fun s ⟨r, h⟩ => ⟨table.losePower s r, .of_none empty.2 empty.1⟩
  case warmReset => exact fun s ⟨r, h⟩ => ⟨table.warmReset s r, h.ended (.inr (.inr (.inr rfl)))⟩
  case lines =>
    intro s t keeps wf ⟨r, h⟩
    obtain ⟨rmp, mig, frt⟩ : t.rmp = s.rmp ∧ t.mig = s.mig ∧ t.frt = s.frt := by simp_all [keepsAllBut_iff]
    exact ⟨table.lines s t keeps wf r, h.of_same (by rw [frt]) (by simp [mig]) (by simp [State.remap_congr rmp])⟩
  all_goals
    intros
    rename_i both
    exact ⟨both.1.of_same (by simp) (by simp) (by simp), both.2.of_same (by simp) (by simp) (by simp)⟩

/-- Settles O56: a notice makes a record for a row that has none, MIGRATING for the source of the migration in
progress, and the end of a migration releases its record. -/
theorem stepKeepsTheRecordsSound : Obligations.StepKeepsTheRecordsSound :=
  fun _ _ table records stepped => (recordInv_keptByAll.step stepped ⟨table, records⟩).2

end Sys2Proof.Machine
end

section
/-! The running command and the work it stands for (R115, R157, R175 to R177, R180, R182). -/

namespace Sys2Proof.Machine

/-! ### The unit, as its own changes leave it -/

@[simp] theorem completeCommand_mnt (r : MntResult) (s : State) :
    (completeCommand r s).mnt = { s.mnt with running := none, lastResult := r } := rfl

@[simp] theorem beginCommand_mnt (c : MntCommand) (s : State) : (beginCommand c s).mnt =
    { s.mnt with running := some ⟨c, s.mnt.arg⟩, lastCommand := some c.code, lastResult := .none } := rfl

@[simp] theorem completeBurn_mnt (r : MntResult) (i : Fin 48) (s : State) : (completeBurn r i s).mnt =
    { s.mnt with running := none, lastResult := r, lastBurnSlot := some i } := rfl

theorem burnPasses_mnt (u : Burn) (s : State) :
    ∃ r, (burnPasses u s).mnt = { s.mnt with running := none, lastResult := r, lastBurnSlot := some u.slot } := by
  unfold burnPasses
  dsimp only
  split
  · exact ⟨.done, by simp⟩
  · exact ⟨.superseded, by simp⟩

@[simp] theorem burnFails_mnt (u : Burn) (s : State) : (burnFails u s).mnt =
    { s.mnt with running := none, lastResult := .failed, lastBurnSlot := some u.slot } := rfl

@[simp] theorem beginClear_mnt (b : Bank) (s : State) :
    (beginClear b s).mnt = { s.mnt with clear := some ⟨b, ⟨0, 0⟩⟩ } := by simp [beginClear]

@[simp] theorem entering_mnt (s : State) : (entering s).mnt = (beginCommand .enterRetention s).mnt := rfl
@[simp] theorem leaving_mnt (s : State) : (leaving s).mnt = (beginCommand .exitRetention s).mnt := rfl
@[simp] theorem exited_mnt (s : State) :
    (exited s).mnt = { s.mnt with running := none, lastResult := .done } := rfl
@[simp] theorem setHold_mnt (v : Bool) (s : State) : (setHold v s).mnt = { s.mnt with hold := v } := rfl
@[simp] theorem storeArg_mnt (w : Word) (s : State) : (storeArg w s).mnt = { s.mnt with arg := argOf w } := rfl
@[simp] theorem warmReset_mnt (s : State) : (warmReset s).mnt = .initial := rfl
@[simp] theorem powerOnValues_mnt (s : State) : (powerOnValues s).mnt = .initial := rfl

/-! ### What each command's work shows of itself -/

/-- An abort waits for the end of the running copy (R115). -/
def EngineState.abortPending : EngineState → Prop
  | .copying _ _ (.running _ true) => True
  | .copying _ _ (.running _ false) => False
  | .copying _ _ .absent => False
  | .copying _ _ .waiting => False
  | .idle => False
  | .parked _ _ => False

theorem EngineState.abortPending_iff {v : EngineState} :
    v.abortPending ↔ ∃ b l park, v = .copying b l (.running park true) := by
  rcases v with - | ⟨b, l, - | - | ⟨p, - | -⟩⟩ | - <;> simp [EngineState.abortPending]

theorem EngineState.not_abortPending_of_atRest {v : EngineState} (rest : v.atRest) : ¬v.abortPending := by
  rcases v with - | ⟨b, l, - | - | ⟨p, - | -⟩⟩ | - <;> simp_all [EngineState.abortPending, EngineState.atRest]

/-- The bank clears for the bank clear: a CLEAR LINE is in progress whose result is to be delivered. -/
def BankSection.clears (k : BankSection) : Prop := ∃ row n, k.phase = .busy (.clearLine row n) .deliver

/-- The bank has no part in a bank clear. -/
def BankSection.calm (k : BankSection) : Prop := k.condition ≠ .clearing ∧ k.clearSlot = none ∧ ¬k.clears

theorem BankSection.not_clears_of_idle {k : BankSection} (idle : k.phase = .idle) : ¬k.clears := by
  rintro ⟨row, n, busy⟩
  simp [idle] at busy

/-- The running command is `c`, whatever its argument. -/
def State.runs (s : State) (c : MntCommand) : Prop := ∃ a, s.mnt.running = some ⟨c, a⟩

theorem State.not_runs_of_idle {s : State} (idle : s.mnt.running = none) (c : MntCommand) : ¬s.runs c := by
  rintro ⟨a, running⟩
  simp [idle] at running

/-- Only one command runs. -/
theorem State.runs_unique {s : State} {c d : MntCommand} (hc : s.runs c) (hd : s.runs d) : c = d := by
  obtain ⟨a, ha⟩ := hc
  obtain ⟨b, hb⟩ := hd
  rw [ha] at hb
  cases hb
  rfl

namespace CommandInv

variable {s t : State}

/-- A change that keeps the unit, the clear and what each command's work shows of itself. -/
theorem of_same (h : CommandInv s) (running : t.mnt.running = s.mnt.running) (clear : t.mnt.clear = s.mnt.clear)
    (banks : ∀ b, (t.bank b).condition = (s.bank b).condition ∧ (t.bank b).clearSlot = (s.bank b).clearSlot ∧
      ((t.bank b).phase = (s.bank b).phase ∨ ¬(t.bank b).clears ∧ ¬(s.bank b).clears))
    (abort : t.mig.state.abortPending ↔ s.mig.state.abortPending) (burn : t.rps.burn = none ↔ s.rps.burn = none)
    (entry : t.hpt.state = .enteringRetention ↔ s.hpt.state = .enteringRetention)
    (exit : t.hpt.state = .leavingRetention ↔ s.hpt.state = .leavingRetention) : CommandInv t where
  clear b := by rw [running, clear]; exact h.clear b
  clearing b := by rw [(banks b).1, clear]; exact h.clearing b
  clearSlot b q slot := by
    obtain ⟨condition, same, phase⟩ := banks b
    rw [same] at slot
    obtain ⟨clearing, none⟩ := h.clearSlot b q slot
    refine ⟨condition ▸ clearing, fun row n busy => ?_⟩
    obtain phase | ⟨phase, -⟩ := phase
    · exact none row n (phase ▸ busy)
    · exact phase ⟨row, n, busy⟩
  clearLine b row n busy := by
    obtain ⟨condition, -, phase | ⟨phase, -⟩⟩ := banks b
    · rw [condition]
      exact h.clearLine b row n (phase ▸ busy)
    · exact absurd ⟨row, n, busy⟩ phase
  abort := by rw [← EngineState.abortPending_iff, abort, running, EngineState.abortPending_iff]; exact h.abort
  burn := by rw [running, ne_eq, burn]; exact h.burn
  entry := by rw [running, entry]; exact h.entry
  exit := by rw [running, exit]; exact h.exit

/-- A bank whose section alone changes, and not in its part in a clear. -/
theorem of_section {b : Bank} {k : BankSection} (h : CommandInv s) (mnt : t.mnt = s.mnt)
    (sections : ∀ x, t.bank x = if x = b then k else s.bank x) (condition : k.condition = (s.bank b).condition)
    (slot : k.clearSlot = (s.bank b).clearSlot)
    (phase : k.phase = (s.bank b).phase ∨ ¬k.clears ∧ ¬(s.bank b).clears)
    (abort : t.mig.state.abortPending ↔ s.mig.state.abortPending) (burn : t.rps = s.rps) (hpt : t.hpt = s.hpt) :
    CommandInv t := by
  refine h.of_same (by rw [mnt]) (by rw [mnt]) (fun x => ?_) abort (by rw [burn]) (by rw [hpt]) (by rw [hpt])
  rw [sections]
  split
  · rename_i same
    exact same ▸ ⟨condition, slot, phase⟩
  · exact ⟨rfl, rfl, .inl rfl⟩

/-- While no clear runs: no bank has a part in one. -/
theorem of_no_clear (running : ¬t.runs .clearBank) (clear : t.mnt.clear = none) (calm : ∀ b, (t.bank b).calm)
    (abort : t.mig.state.abortPending ↔ t.runs .abortMigration) (burn : t.rps.burn ≠ none ↔ t.runs .burnRow)
    (entry : t.hpt.state = .enteringRetention ↔ t.runs .enterRetention)
    (exit : t.hpt.state = .leavingRetention ↔ t.runs .exitRetention) : CommandInv t where
  clear b := by
    rw [clear]
    exact iff_of_false (by simp) fun ⟨a, runs, _⟩ => running ⟨a, runs⟩
  clearing b := by
    rw [clear]
    exact iff_of_false (calm b).1 (by simp)
  clearSlot b q slot := by simp [(calm b).2.1] at slot
  clearLine b row n busy := absurd ⟨row, n, busy⟩ (calm b).2.2
  abort := EngineState.abortPending_iff.symm.trans abort
  burn := burn
  entry := entry
  exit := exit

/-- With the unit IDLE no work lasts. -/
theorem of_idle (running : t.mnt.running = none) (clear : t.mnt.clear = none) (calm : ∀ b, (t.bank b).calm)
    (abort : ¬t.mig.state.abortPending) (burn : t.rps.burn = none) (entry : t.hpt.state ≠ .enteringRetention)
    (exit : t.hpt.state ≠ .leavingRetention) : CommandInv t :=
  have none := State.not_runs_of_idle running
  of_no_clear (none _) clear calm (iff_of_false abort (none _)) (iff_of_false (· burn) (none _))
    (iff_of_false entry (none _)) (iff_of_false exit (none _))

theorem abort_iff (h : CommandInv s) : s.mig.state.abortPending ↔ s.runs .abortMigration :=
  EngineState.abortPending_iff.trans h.abort

theorem burn_iff (h : CommandInv s) : s.rps.burn ≠ none ↔ s.runs .burnRow := h.burn
theorem entry_iff (h : CommandInv s) : s.hpt.state = .enteringRetention ↔ s.runs .enterRetention := h.entry
theorem exit_iff (h : CommandInv s) : s.hpt.state = .leavingRetention ↔ s.runs .exitRetention := h.exit

/-- While CLEAR BANK does not run there is no clear, and no bank has a part in one. -/
theorem no_clear (h : CommandInv s) (running : ¬s.runs .clearBank) :
    s.mnt.clear = none ∧ ∀ b, (s.bank b).calm := by
  have none : s.mnt.clear = none := by
    rcases clear : s.mnt.clear with - | ⟨b, q⟩
    · rfl
    · obtain ⟨a, runs, -⟩ := (h.clear b).mp ⟨q, clear⟩
      exact absurd ⟨a, runs⟩ running
  have calm (b : Bank) : (s.bank b).condition ≠ .clearing := fun clearing => by
    obtain ⟨q, clear⟩ := (h.clearing b).mp clearing
    simp [none] at clear
  refine ⟨none, fun b => ⟨calm b, ?_, fun ⟨row, n, busy⟩ => calm b (h.clearLine b row n busy)⟩⟩
  cases slot : (s.bank b).clearSlot with
  | none => rfl
  | some q => exact absurd (h.clearSlot b q slot).1 (calm b)

/-- While the unit is IDLE, or runs another command, that command's work is not under way. -/
theorem not_abort (h : CommandInv s) (running : ¬s.runs .abortMigration) : ¬s.mig.state.abortPending :=
  fun pending => running (h.abort_iff.mp pending)
theorem not_burn (h : CommandInv s) (running : ¬s.runs .burnRow) : s.rps.burn = none := by
  by_contra burn
  exact running (h.burn_iff.mp burn)
theorem not_entry (h : CommandInv s) (running : ¬s.runs .enterRetention) : s.hpt.state ≠ .enteringRetention :=
  fun entry => running (h.entry_iff.mp entry)
theorem not_exit (h : CommandInv s) (running : ¬s.runs .exitRetention) : s.hpt.state ≠ .leavingRetention :=
  fun exit => running (h.exit_iff.mp exit)

/-- The running command ends with its work, no other being under way: the unit is IDLE. -/
theorem finished {c : MntCommand} (h : CommandInv s) (runs : s.runs c) (other : c ≠ .clearBank)
    (running : t.mnt.running = none) (clear : t.mnt.clear = s.mnt.clear)
    (banks : ∀ b, (s.bank b).calm → (t.bank b).calm)
    (abort : c ≠ .abortMigration → (t.mig.state.abortPending → s.mig.state.abortPending))
    (abort' : c = .abortMigration → ¬t.mig.state.abortPending)
    (burn : c ≠ .burnRow → t.rps.burn = s.rps.burn) (burn' : c = .burnRow → t.rps.burn = none)
    (entry : t.hpt.state ≠ .enteringRetention ∨ c ≠ .enterRetention ∧ t.hpt.state = s.hpt.state)
    (exit : t.hpt.state ≠ .leavingRetention ∨ c ≠ .exitRetention ∧ t.hpt.state = s.hpt.state) : CommandInv t := by
  have none (d : MntCommand) (ne : c ≠ d) : ¬s.runs d := fun runs' => ne (State.runs_unique runs runs')
  obtain ⟨noClear, calm⟩ := h.no_clear (none _ other)
  refine of_idle running (clear.trans noClear) (fun b => banks b (calm b)) ?_ ?_ ?_ ?_
  · by_cases same : c = .abortMigration
    · exact abort' same
    · exact fun pending => h.not_abort (none _ same) (abort same pending)
  · by_cases same : c = .burnRow
    · exact burn' same
    · exact (burn same).trans (h.not_burn (none _ same))
  · obtain out | ⟨ne, same⟩ := entry
    · exact out
    · exact same ▸ h.not_entry (none _ ne)
  · obtain out | ⟨ne, same⟩ := exit
    · exact out
    · exact same ▸ h.not_exit (none _ ne)

/-! ### Each change of a command's work -/

theorem retainBank (h : CommandInv s) {b : Bank} (may : mayRetain b s = true) : CommandInv (retainBank b s) := by
  have idle : (s.bank b).phase = .idle ∧ s.hpt.state = .enteringRetention := by simp_all [mayRetain]
  have sections := retainBank_section b s
  have silent : ¬BankSection.clears { s.bank b with phase := .retained, debt := 0 } := by
    simp [BankSection.clears]
  have runs := h.entry_iff.mp idle.2
  by_cases last : allRetained (s.setBank b { s.bank b with phase := .retained, debt := 0 }) = true
  · have ended : Machine.retainBank b s = enterRetained (s.setBank b { s.bank b with phase := .retained, debt := 0 }) := by
      simp only [Machine.retainBank, last, if_true]
    refine h.finished runs (by simp) (by rw [ended]; rfl) (by rw [ended]; rfl) (fun x calm => ?_)
      (fun _ pending => by simpa using pending) (by simp) (fun _ => by simp) (by simp)
      (.inl (by rw [ended]; simp [enterRetained])) (.inl (by rw [ended]; simp [enterRetained]))
    rw [sections]
    split
    · rename_i same
      subst same
      exact ⟨calm.1, calm.2.1, silent⟩
    · exact calm
  · have goesOn : Machine.retainBank b s = s.setBank b { s.bank b with phase := .retained, debt := 0 } := by
      simp only [Machine.retainBank, last]
      rfl
    rw [goesOn]
    exact h.of_section (by simp) (fun x => s.bank_setBank ..) rfl rfl
      (.inr ⟨silent, BankSection.not_clears_of_idle idle.1⟩) (by simp) (by simp) (by simp)

theorem grantClear (h : CommandInv s) {b : Bank} {q : RowLine}
    (slot : (s.bank b).clearSlot = some q) : CommandInv (grantClear b q s) := by
  have condition (x : Bank) : ((Machine.grantClear b q s).bank x).condition = (s.bank x).condition := by
    rw [grantClear_section]
    split
    · rename_i same
      rw [same]
    · rfl
  refine ⟨by simpa using h.clear, fun x => ?_, fun x q' slot' => ?_, fun x row n busy => ?_,
    by simpa using h.abort, by simpa using h.burn, by simpa using h.entry, by simpa using h.exit⟩
  · rw [condition]
    simpa using h.clearing x
  · rw [grantClear_section] at slot' ⊢
    split at slot'
    · simp at slot'
    · rename_i other
      simp only [other, if_false]
      exact h.clearSlot x q' slot'
  · rw [condition]
    rw [grantClear_section] at busy
    split at busy
    · rename_i same
      exact same ▸ (h.clearSlot b q slot).1
    · exact h.clearLine x row n busy

theorem clearPlaced (h : CommandInv s) {b : Bank} {p : RowLine} (place : clearPlacement? s = some (b, p)) :
    CommandInv (clearPlaced b p s) := by
  have facts : (s.bank b).condition = .clearing ∧ clearInProgress (s.bank b) = false := by
    unfold clearPlacement? at place
    split at place
    · dsimp only at place
      split at place
      · rename_i may
        obtain ⟨q, -, same⟩ := Option.map_eq_some_iff.mp place
        cases same
        exact ⟨may.1, may.2.2.2⟩
      · cases place
    · cases place
  have quiet (row : PhysRow) (n : LineNo) : (s.bank b).phase ≠ .busy (.clearLine row n) .deliver := fun busy => by
    have := facts.2
    simp [clearInProgress, busy] at this
  have rest (x : Bank) : ((Machine.clearPlaced b p s).bank x).condition = (s.bank x).condition ∧
      ((Machine.clearPlaced b p s).bank x).phase = (s.bank x).phase := by
    rw [clearPlaced_section]
    split
    · rename_i same
      exact same ▸ ⟨rfl, rfl⟩
    · exact ⟨rfl, rfl⟩
  refine ⟨by simpa using h.clear, fun x => ?_, fun x q slot => ?_, fun x row n busy => ?_,
    by simpa using h.abort, by simpa using h.burn, by simpa using h.entry, by simpa using h.exit⟩
  · rw [(rest x).1]
    simpa using h.clearing x
  · rw [(rest x).1, (rest x).2]
    rw [clearPlaced_section] at slot
    split at slot
    · rename_i same
      exact same ▸ ⟨facts.1, quiet⟩
    · exact h.clearSlot x q slot
  · rw [(rest x).1]
    exact h.clearLine x row n ((rest x).2 ▸ busy)

theorem clearLineEnds (h : CommandInv s) {b : Bank} {row : PhysRow} {n : LineNo}
    (busy : delivers s b (.clearLine row n)) :
    CommandInv (clearLineEnds b ⟨row, n⟩ (Sys2Proof.Machine.idleBank b s)) := by
  have condition := h.clearLine b row n busy
  obtain ⟨q, clear⟩ := (h.clearing b).mp condition
  obtain ⟨a, runs, bank⟩ := (h.clear b).mp ⟨q, clear⟩
  have running : s.runs .clearBank := ⟨a, runs⟩
  have none (c : MntCommand) (ne : c ≠ .clearBank) : ¬s.runs c := fun runs' => ne (State.runs_unique runs' running)
  have empty : (s.bank b).clearSlot = Option.none := by
    cases slot : (s.bank b).clearSlot with
    | none => rfl
    | some r => exact absurd busy ((h.clearSlot b r slot).2 row n)
  have others (x : Bank) (other : x ≠ b) : (s.bank x).calm := by
    have out : (s.bank x).condition ≠ .clearing := fun clearing => by
      obtain ⟨r, at_x⟩ := (h.clearing x).mp clearing
      rw [clear] at at_x
      cases at_x
      exact other rfl
    refine ⟨out, ?_, fun ⟨row, n, busy⟩ => out (h.clearLine x row n busy)⟩
    cases slot : (s.bank x).clearSlot with
    | none => rfl
    | some r => exact absurd (h.clearSlot x r slot).1 out
  have idled : CommandInv (Sys2Proof.Machine.idleBank b s) := by
    refine ⟨by simpa using h.clear, fun x => ?_, fun x r slot => ?_, fun x row n busy => ?_,
      by simpa using h.abort, by simpa using h.burn, by simpa using h.entry, by simpa using h.exit⟩
    · rw [idleBank_section]
      split
      · rename_i same
        subst same
        simpa using h.clearing x
      · simpa using h.clearing x
    · rw [idleBank_section] at slot ⊢
      split at slot
      · simp [empty] at slot
      · rename_i other
        simp only [other, if_false]
        exact h.clearSlot x r slot
    · rw [idleBank_section] at busy ⊢
      split at busy
      · simp at busy
      · rename_i other
        simp only [other, if_false]
        exact h.clearLine x row n busy
  unfold Machine.clearLineEnds
  simp only [(idleBank_frame b s).2.2.2.2.2.2.2.2.2.2.2.2.1, clear, if_true]
  split
  · rename_i q' next
    refine ⟨fun x => ?_, fun x => ?_, fun x r slot => idled.clearSlot x r slot,
      fun x row n busy => idled.clearLine x row n busy, by simpa using idled.abort, by simpa using idled.burn,
      by simpa using idled.entry, by simpa using idled.exit⟩
    · have := idled.clear x
      simpa [clear] using this
    · have := idled.clearing x
      simpa [clear] using this
  · refine of_idle rfl rfl (fun x => ?_) (by simpa using h.not_abort (none _ (by simp)))
      (by simpa using h.not_burn (none _ (by simp))) (by simpa using h.not_entry (none _ (by simp)))
      (by simpa using h.not_exit (none _ (by simp)))
    simp only [finishClear, completeCommand_bank, State.bank_setMnt, State.bank_setBank, idleBank_section]
    split
    · simp [BankSection.calm, BankSection.clears, empty]
    · rename_i other
      exact others x other

theorem clearBegun (h : CommandInv s) (rest : s.mnt.running = none) :
    CommandInv (beginClear s.mnt.arg.bank (beginCommand .clearBank s)) := by
  have none := State.not_runs_of_idle rest
  obtain ⟨-, calm⟩ := h.no_clear (none _)
  have sections (x : Bank) : ((beginClear s.mnt.arg.bank (beginCommand .clearBank s)).bank x).condition =
      (if x = s.mnt.arg.bank then .clearing else (s.bank x).condition) ∧
      ((beginClear s.mnt.arg.bank (beginCommand .clearBank s)).bank x).phase = (s.bank x).phase ∧
      ((beginClear s.mnt.arg.bank (beginCommand .clearBank s)).bank x).clearSlot = (s.bank x).clearSlot := by
    rw [beginClear_section, withdrawStepOf_section]
    split
    · rename_i same
      subst same
      split <;> simp
    · simp
  refine ⟨fun x => ?_, fun x => ?_, fun x q slot => ?_, fun x row n busy => ?_, ?_, ?_, ?_, ?_⟩
  · simp [eq_comm]
  · rw [(sections x).1]
    by_cases same : x = s.mnt.arg.bank
    · simp [same]
    · simp [same, Ne.symm same, (calm x).1]
  · rw [(sections x).2.2, (calm x).2.1] at slot
    cases slot
  · rw [(sections x).2.1] at busy
    exact absurd ⟨row, n, busy⟩ (calm x).2.2
  · rw [← EngineState.abortPending_iff]
    simpa using h.not_abort (none _)
  · simpa using h.not_burn (none _)
  · simpa using h.not_entry (none _)
  · simpa using h.not_exit (none _)

/-- A command just taken whose own work is all that begins. -/
theorem taken {c : MntCommand} (h : CommandInv s) (rest : s.mnt.running = none) (other : c ≠ .clearBank)
    (running : t.runs c) (clear : t.mnt.clear = s.mnt.clear) (banks : ∀ b, (s.bank b).calm → (t.bank b).calm)
    (abort : t.mig.state.abortPending ↔ c = .abortMigration) (burn : t.rps.burn ≠ none ↔ c = .burnRow)
    (entry : t.hpt.state = .enteringRetention ↔ c = .enterRetention)
    (exit : t.hpt.state = .leavingRetention ↔ c = .exitRetention) : CommandInv t := by
  obtain ⟨noClear, calm⟩ := h.no_clear (State.not_runs_of_idle rest _)
  have only (d : MntCommand) : t.runs d ↔ c = d :=
    ⟨fun runs => State.runs_unique running runs, fun same => same ▸ running⟩
  refine of_no_clear ?_ (clear.trans noClear) (fun b => banks b (calm b)) (abort.trans (only _).symm)
    (burn.trans (only _).symm) (entry.trans (only _).symm) (exit.trans (only _).symm)
  rw [only]
  exact other

end CommandInv

theorem park_abortPending (s : State) : (park s).mig.state.abortPending ↔ s.mig.state.abortPending := by
  unfold park
  split <;> rename_i engine
  case h_5 b l p a => cases a <;> simp [engine, EngineState.abortPending]
  all_goals simp [engine, EngineState.abortPending]

theorem unpark_abortPending (s : State) : (unpark s).mig.state.abortPending ↔ s.mig.state.abortPending := by
  unfold unpark
  split <;> rename_i engine
  case h_5 b l p a => cases a <;> simp [engine, EngineState.abortPending]
  all_goals simp [engine, EngineState.abortPending]

theorem CommandInv.idleBank {s : State} {b : Bank} {op : Operation} {d : Disposition} (h : CommandInv s)
    (busy : (s.bank b).phase = .busy op d) (none : d = .discard ∨ ∀ row n, op ≠ .clearLine row n) :
    CommandInv (idleBank b s) := by
  refine h.of_section (by simp) (idleBank_section b s) rfl rfl
    (.inr ⟨BankSection.not_clears_of_idle rfl, fun ⟨row, n, clear⟩ => ?_⟩) (by simp) (by simp) (by simp)
  rw [busy] at clear
  simp only [Phase.busy.injEq] at clear
  rcases none with rfl | none
  · cases clear.2
  · exact none _ _ clear.1

theorem CommandInv.copyEnds {s : State} {b : Bank} {l : LogicalRow} {p : PhysRow} {x : SpareIdx} {n : LineNo}
    (h : CommandInv s) (copy : CopyInv s) (table : RemapInv s) (busy : delivers s b (.copyLine l p x n))
    (v : Bool) : CommandInv (copyEnds n v (Sys2Proof.Machine.idleBank b s)) := by
  obtain ⟨⟨park, abort, engine⟩, -⟩ := copy.copy b l p x n busy
  have idled := h.idleBank busy (.inr (by simp))
  have table' : RemapInv (Sys2Proof.Machine.idleBank b s) := table.of_same (by simp) (by simp) (by simp)
  have engine' : (Sys2Proof.Machine.idleBank b s).mig.state = .copying b l (.running park abort) := by
    simpa using engine
  have rest := EngineState.not_abortPending_of_atRest (copyEnds_atRest table' engine' n v)
  cases abort with
  | true =>
    have runs := idled.abort_iff.mp (by simp [engine, EngineState.abortPending])
    have after : Machine.copyEnds n v (Sys2Proof.Machine.idleBank b s) =
        completeCommand .done (applyAbort b l (Sys2Proof.Machine.idleBank b s)) := by
      simp only [Machine.copyEnds, engine', if_true]
    exact idled.finished runs (by simp) (by rw [after]; rfl) (by rw [after]; simp) (by simp)
      (by simp) (fun _ => rest) (by simp) (by simp) (.inr (by simp)) (.inr (by simp))
  | false =>
    have mnt : (Machine.copyEnds n v (Sys2Proof.Machine.idleBank b s)).mnt = s.mnt := by
      obtain ⟨e, found, -⟩ := table'.exists_pending? (b := b) (l := l) (by simp [engine])
      simp only [Machine.copyEnds, engine', found]
      split
      · simp_all
      · split
        · simp
        · simp
    refine idled.of_same (by rw [mnt]; simp) (by rw [mnt]; simp) (by simp)
      (iff_of_false rest (by simp [engine, EngineState.abortPending])) (by simp) (by simp) (by simp)

/-! ### What each change makes of the command (one lemma per change that does more than keep it) -/

namespace CommandInv

variable {s : State} (h : CommandInv s)
include h

theorem startBegun (starting : inStart s.hpt.state = true) : CommandInv (beginStart s) := by
  refine h.of_same (by simp) (by simp) (by simp) (by simp) (by simp)
    (iff_of_false (by simp) fun entry => ?_) (iff_of_false (by simp) fun exit => ?_)
  · simp [entry, inStart] at starting
  · simp [exit, inStart] at starting

theorem charged : CommandInv (s.mapBanks chargeRefresh) := by
  refine h.of_same (by simp) (by simp) (fun x => ?_) (by simp) (by simp) (by simp) (by simp)
  rw [State.bank_mapBanks, chargeRefresh]
  split <;> exact ⟨rfl, rfl, .inl rfl⟩

theorem copyGranted (copy : CopyInv s) {b : Bank} (idle : (s.bank b).phase = .idle)
    (slot : (s.bank b).migrationSlot = true) : CommandInv (grantCopy b s) := by
  obtain ⟨l, waiting⟩ := (copy.slot b).mp slot
  refine h.of_same (by simp) (by simp) (fun x => ?_) (iff_of_false ?_ ?_) (by simp) (by simp) (by simp)
  · rw [grantCopy_section]
    split
    · split
      · rename_i same
        subst same
        exact ⟨rfl, rfl, .inr ⟨by simp [BankSection.clears, copyOperation_ne_clearLine],
          BankSection.not_clears_of_idle idle⟩⟩
      · exact ⟨rfl, rfl, .inl rfl⟩
    · exact ⟨rfl, rfl, .inl rfl⟩
  · unfold Machine.grantCopy
    split
    · simp [runCopy, waiting, EngineState.abortPending]
    · simp [waiting, EngineState.abortPending]
  · simp [waiting, EngineState.abortPending]

theorem parked : CommandInv (park s) := by
  refine h.of_same (by simp) (by simp) (fun x => ?_) (park_abortPending s) (by simp) (by simp) (by simp)
  rw [park_section]
  split <;> exact ⟨rfl, rfl, .inl rfl⟩

theorem stepWithdrawn : CommandInv (withdrawStep s) := by
  refine h.of_same (by simp) (by simp) (fun x => ?_) (by simp) (by simp) (by simp) (by simp)
  rw [withdrawStep_section]
  split <;> exact ⟨rfl, rfl, .inl rfl⟩

theorem cursorRestarted : CommandInv (restartCursor s) := by
  refine h.of_same (by simp) (by simp) (fun x => ?_) (by simp) (by simp) (by simp) (by simp)
  rw [restartCursor_section]
  split <;> exact ⟨rfl, rfl, .inl rfl⟩

theorem burnPassed {u : Burn} (burn : s.rps.burn = some u) : CommandInv (burnPasses u s) := by
  obtain ⟨r, mnt⟩ := burnPasses_mnt u s
  exact h.finished (h.burn_iff.mp (by simp [burn])) (by simp) (by rw [mnt]) (by rw [mnt]) (by simp) (by simp)
    (by simp) (by simp) (fun _ => by simp) (.inr (by simp)) (.inr (by simp))

theorem abortedAtRest (table : RemapInv s) {b : Bank} {l : LogicalRow}
    (state : s.mig.state = .parked b l ∨ s.mig.state = .copying b l .absent) : CommandInv (applyAbort b l s) := by
  obtain ⟨d, found, -⟩ := table.exists_pending? (b := b) (l := l) (by rcases state with p | p <;> simp [p])
  exact h.of_same (by simp) (by simp) (by simp)
    (iff_of_false (EngineState.not_abortPending_of_atRest (applyAbort_atRest found l))
      (by rcases state with p | p <;> simp [p, EngineState.abortPending])) (by simp) (by simp) (by simp)

theorem abortedWaiting (table : RemapInv s) {b : Bank} {l : LogicalRow} (state : s.mig.state = .copying b l .waiting) :
    CommandInv (applyAbort b l (withdrawCopy b s)) := by
  obtain ⟨d, found, -⟩ := table.exists_pending? (b := b) (l := l) (by simp [state])
  refine h.of_same (by simp) (by simp) (fun x => ?_)
    (iff_of_false (EngineState.not_abortPending_of_atRest
      (applyAbort_atRest (s := withdrawCopy b s) (by simpa using found) l))
      (by simp [state, EngineState.abortPending])) (by simp) (by simp) (by simp)
  rw [applyAbort_bank, withdrawCopy_section]
  split
  · rename_i same
    exact same ▸ ⟨rfl, rfl, .inl rfl⟩
  · exact ⟨rfl, rfl, .inl rfl⟩

variable (rest : s.mnt.running = none)
include rest

theorem entryBegun : CommandInv (entering s) := by
  have none := State.not_runs_of_idle rest
  exact h.taken (c := .enterRetention) rest (by simp) ⟨s.mnt.arg, by simp⟩ (by simp) (by simp)
    (by simpa using h.not_abort (none _)) (by simpa using h.not_burn (none _)) (by simp) (by simp)

theorem exitBegun : CommandInv (leaving s) := by
  have none := State.not_runs_of_idle rest
  refine h.taken (c := .exitRetention) rest (by simp) ⟨s.mnt.arg, by simp⟩ (by simp) (fun x calm => ?_)
    (by simpa using h.not_abort (none _)) (by simpa using h.not_burn (none _)) (by simp) (by simp)
  rw [leaving_section, leaveRetained]
  split
  · exact ⟨calm.1, calm.2.1, BankSection.not_clears_of_idle rfl⟩
  · exact calm

end CommandInv

/-- The remap table, the copy request and the running command agree in every state with the same blocks. -/
theorem engineAndCommand_of_same {s t : State} (h : (RemapInv s ∧ CopyInv s) ∧ CommandInv s)
    (rmp : t.rmp = s.rmp) (mig : t.mig = s.mig) (banks : t.banks = s.banks)
    (running : t.mnt.running = s.mnt.running) (clear : t.mnt.clear = s.mnt.clear)
    (rps : t.rps = s.rps) (state : t.hpt.state = s.hpt.state) : (RemapInv t ∧ CopyInv t) ∧ CommandInv t := by
  have remap := State.remap_congr rmp
  have bank := State.bank_congr banks
  exact ⟨⟨h.1.1.of_same remap (by simp [mig]) (by simp [state]),
      h.1.2.of_same (by rw [mig]) (by simp [bank]) (by simp [bank]) remap⟩,
    h.2.of_same running clear (by simp [bank]) (by rw [mig]) (by rw [rps]) (by rw [state]) (by rw [state])⟩

theorem commandInv_keptByAll : KeptByAll fun s => (RemapInv s ∧ CopyInv s) ∧ CommandInv s := by
  have engine := copyInv_keptByAll
  have kept : Kept fun s => (RemapInv s ∧ CopyInv s) ∧ CommandInv s := by
    constructor
    case beginStart =>
      exact fun s starting ⟨e, h⟩ => ⟨engine.beginStart s starting e, h.startBegun starting⟩
    case loaded =>
      exact fun s state ⟨e, h⟩ => ⟨engine.loaded s state e,
        h.of_same (by simp) (by simp) (by simp) (by simp) (by simp) (by simp [state]) (by simp [state])⟩
    case started =>
      exact fun s state ⟨e, h⟩ => ⟨engine.started s state e,
        h.of_same (by simp) (by simp) (by simp) (by simp) (by simp) (by simp [state]) (by simp [state])⟩
    case restarted =>
      exact fun s state ⟨e, h⟩ => ⟨engine.restarted s state e,
        h.of_same (by simp) (by simp) (by simp) (by simp) (by simp) (by simp [state]) (by simp [state])⟩
    case restarting =>
      exact fun s state ⟨e, h⟩ => ⟨engine.restarting s state e,
        h.of_same (by simp) (by simp) (by simp) (by simp) (by simp) (by simp [state]) (by simp [state])⟩
    case charge => exact fun s ⟨e, h⟩ => ⟨engine.charge s e, h.charged⟩
    case grantHost =>
      exact fun s b q idle slot ⟨e, h⟩ => ⟨engine.grantHost s b q idle slot e,
        h.of_section (by simp) (grantHost_section b q s) rfl rfl
          (.inr ⟨by simp [BankSection.clears, hostOperation_ne_clearLine], BankSection.not_clears_of_idle idle⟩)
          (by simp) (by simp) (by simp)⟩
    case grantCopy =>
      exact fun s b idle slot ⟨e, h⟩ => ⟨engine.grantCopy s b idle slot e, h.copyGranted e.2 idle slot⟩
    case grantStep =>
      exact fun s b q idle slot ⟨e, h⟩ => ⟨engine.grantStep s b q idle slot e,
        h.of_section (by simp) (grantStep_section b q s) rfl rfl
          (.inr ⟨by simp [BankSection.clears], BankSection.not_clears_of_idle idle⟩) (by simp) (by simp) (by simp)⟩
    case grantClear =>
      exact fun s b q idle slot ⟨e, h⟩ => ⟨engine.grantClear s b q idle slot e, h.grantClear slot⟩
    case grantRefresh =>
      exact fun s b idle ⟨e, h⟩ => ⟨engine.grantRefresh s b idle e,
        h.of_section (by simp) (grantRefresh_section b s) rfl rfl
          (.inr ⟨by simp [BankSection.clears], BankSection.not_clears_of_idle idle⟩) (by simp) (by simp) (by simp)⟩
    case discardStep =>
      exact fun s b q idle slot ⟨e, h⟩ => ⟨engine.discardStep s b q idle slot e,
        h.of_section (by simp) (discardStep_section b s) rfl rfl (.inl rfl) (by simp) (by simp) (by simp)⟩
    case retainBank => exact fun s b may ⟨e, h⟩ => ⟨engine.retainBank s b may e, h.retainBank may⟩
    case idled => exact fun s b op busy ⟨e, h⟩ => ⟨engine.idled s b op busy e, h.idleBank busy (.inl rfl)⟩
    case refreshEnds =>
      exact fun s b busy ⟨e, h⟩ => ⟨engine.refreshEnds s b busy e, h.idleBank busy (.inr (by simp))⟩
    case requestEnds =>
      intro s b op q o f w busy request ⟨e, h⟩
      refine ⟨engine.requestEnds s b op q o f w busy request e, (h.idleBank busy (.inr fun row n same => ?_)).of_same
        (by simp) (by simp) (by simp) (by simp) (by simp) (by simp) (by simp)⟩
      simp [same, Operation.request?] at request
    case stepEnds =>
      exact fun s b rows n l busy ⟨e, h⟩ => ⟨engine.stepEnds s b rows n l busy e,
        (h.idleBank busy (.inr (by simp))).of_same (by simp) (by simp) (by simp) (by simp) (by simp) (by simp)
          (by simp)⟩
    case copyEnds =>
      exact fun s b l p x n v busy ⟨e, h⟩ =>
        ⟨engine.copyEnds s b l p x n v busy e, h.copyEnds e.2 e.1 busy v⟩
    case clearLineEnds =>
      exact fun s b row n busy ⟨e, h⟩ => ⟨engine.clearLineEnds s b row n busy e, h.clearLineEnds busy⟩
    case requestPlaced =>
      exact fun s g held takes ⟨e, h⟩ => ⟨engine.requestPlaced s g held takes e,
        h.of_section (by simp) (requestPlaced_section g.request s) rfl rfl (.inl rfl) (by simp) (by simp) (by simp)⟩
    case copyPlaced =>
      exact fun s b l state ⟨e, h⟩ => ⟨engine.copyPlaced s b l state e,
        h.of_section (by simp) (copyPlaced_section b l s) rfl rfl (.inl rfl)
          (by simp [copyPlaced, state, EngineState.abortPending]) (by simp) (by simp)⟩
    case clearPlaced =>
      exact fun s b p place ⟨e, h⟩ => ⟨engine.clearPlaced s b p place e, h.clearPlaced place⟩
    case stepPlaced =>
      exact fun s p none ⟨e, h⟩ => ⟨engine.stepPlaced s p none e,
        h.of_section (by simp) (stepPlaced_section p s) rfl rfl (.inl rfl) (by simp) (by simp) (by simp)⟩
    case startOn =>
      intro s b l x started idle free ⟨e, h⟩
      refine ⟨engine.startOn s b l x started idle free e, h.of_same (by simp) (by simp) (by simp)
        (iff_of_false ?_ (by simp [idle, EngineState.abortPending])) (by simp) (by simp) (by simp)⟩
      rw [startOn_mig]
      exact EngineState.not_abortPending_of_atRest (startState_atRest s b l)
    case park => exact fun s ⟨e, h⟩ => ⟨engine.park s e, h.parked⟩
    case unpark =>
      exact fun s ⟨e, h⟩ => ⟨engine.unpark s e, h.of_same (by simp) (by simp) (by simp) (unpark_abortPending s)
        (by simp) (by simp) (by simp)⟩
    case burnPasses => exact fun s u burn ⟨e, h⟩ => ⟨engine.burnPasses s u burn e, h.burnPassed burn⟩
    case burnFails =>
      exact fun s u burn ⟨e, h⟩ => ⟨engine.burnFails s u burn e,
        h.finished (h.burn_iff.mp (by simp [burn])) (by simp) (by simp) (by simp) (by simp) (by simp) (by simp)
          (by simp) (fun _ => by simp) (.inr (by simp)) (.inr (by simp))⟩
    case nextAttempt =>
      exact fun s u i burn blank ⟨e, h⟩ => ⟨engine.nextAttempt s u i burn blank e,
        h.of_same (by simp) (by simp) (by simp) (by simp) (by simp [RepairStore.beginAttempt, burn]) (by simp)
          (by simp)⟩
    case completed =>
      exact fun s c r rest ⟨e, h⟩ => ⟨engine.completed s c r rest e,
        h.of_same (by simp [rest]) (by simp) (by simp) (by simp) (by simp) (by simp) (by simp)⟩
    case clearBegun =>
      exact fun s rest ready none ⟨e, h⟩ => ⟨engine.clearBegun s rest ready none e, h.clearBegun rest⟩
    case abortAtRest =>
      exact fun s b l state ⟨e, h⟩ => ⟨engine.abortAtRest s b l state e, h.abortedAtRest e.1 state⟩
    case abortWaiting =>
      exact fun s b l state ⟨e, h⟩ => ⟨engine.abortWaiting s b l state e, h.abortedWaiting e.1 state⟩
    case abortBegun =>
      intro s b l p a rest state ⟨e, h⟩
      have none := State.not_runs_of_idle rest
      exact ⟨engine.abortBegun s b l p a rest state e, h.taken (c := .abortMigration) rest (by simp)
        ⟨s.mnt.arg, by simp⟩ (by simp) (by simp) (by simp [EngineState.abortPending])
        (by simpa using h.not_burn (none _)) (by simpa using h.not_entry (none _))
        (by simpa using h.not_exit (none _))⟩
    case burnBegun =>
      intro s b l x i rest blank ⟨e, h⟩
      have none := State.not_runs_of_idle rest
      exact ⟨engine.burnBegun s b l x i rest blank e, h.taken (c := .burnRow) rest (by simp)
        ⟨s.mnt.arg, by simp⟩ (by simp) (by simp) (by simpa using h.not_abort (none _))
        (by simp [RepairStore.beginAttempt]) (by simpa using h.not_entry (none _))
        (by simpa using h.not_exit (none _))⟩
    case entering =>
      exact fun s rest ready ⟨e, h⟩ => ⟨engine.entering s rest ready e, h.entryBegun rest⟩
    case leaving =>
      exact fun s rest retention ⟨e, h⟩ => ⟨engine.leaving s rest retention e, h.exitBegun rest⟩
    case exited =>
      exact fun s state ⟨e, h⟩ => ⟨engine.exited s state e, h.finished (h.exit_iff.mp state) (by simp) (by simp)
        (by simp) (by simp) (by simp) (by simp) (by simp) (by simp) (.inl (by simp)) (.inl (by simp))⟩
    case withdrawStep => exact fun s ⟨e, h⟩ => ⟨engine.withdrawStep s e, h.stepWithdrawn⟩
    case restartCursor => exact fun s ⟨e, h⟩ => ⟨engine.restartCursor s e, h.cursorRestarted⟩
    case storeRmpSelect =>
      exact fun s w ⟨e, h⟩ => ⟨engine.storeRmpSelect s w e,
        h.of_same (by simp) (by simp) (by simp) (by simp) (by simp) (by simp) (by simp)⟩
    case storeRpsSelect =>
      exact fun s w ⟨e, h⟩ => ⟨engine.storeRpsSelect s w e,
        h.of_same (by simp) (by simp) (by simp) (by simp) Iff.rfl (by simp) (by simp)⟩
    all_goals
      intros
      exact engineAndCommand_of_same ‹_› (by simp) (by simp) (by simp) (by simp) (by simp) (by simp) (by simp)
  have calm (k : BankSection) : (resetBank k).calm := by
    refine ⟨?_, rfl, ?_⟩
    · simp only [resetBank]
      split <;> simp_all
    · cases phase : k.phase <;> simp [BankSection.clears, resetBank, phase]
  have powered (v : Bool) (s : State) (b : Bank) :
      (State.bank { powerOnValues s with powered := v } b).calm := by
    rw [State.bank_powered, powerOnValues_bank]
    simp [BankSection.initial, BankSection.calm, BankSection.clears]
  apply KeptByAll.mk kept
  case applyPower =>
    exact fun s off ⟨e, h⟩ => ⟨engine.applyPower s off e,
      .of_idle rfl rfl (powered true s) id rfl (by simp [State.reset]) (by simp [State.reset])⟩
  case losePower =>
    exact fun s ⟨e, h⟩ => ⟨engine.losePower s e,
      .of_idle rfl rfl (powered false s) id rfl (by simp [State.reset]) (by simp [State.reset])⟩
  case warmReset =>
    exact fun s ⟨e, h⟩ => ⟨engine.warmReset s e,
      .of_idle rfl rfl (fun b => by rw [warmReset_bank]; exact calm _) id rfl (by simp) (by simp)⟩
  case lines =>
    exact fun s t keeps _ h => engineAndCommand_of_same h (keeps .rmp (by simp)) (keeps .mig (by simp))
      (keeps .bsq (by simp)) (by rw [keeps .mnt (by simp)]) (by rw [keeps .mnt (by simp)]) (keeps .rps (by simp)) (by rw [keeps .hpt (by simp)])
  case lowered =>
    exact fun s b busy ⟨e, h⟩ => ⟨engine.lowered s b busy e,
      h.of_section (by simp) (fun x => s.bank_setBank ..) rfl rfl (.inl rfl) (by simp) (by simp) (by simp)⟩
  all_goals
    intros
    exact engineAndCommand_of_same ‹_› (by simp) (by simp) (by simp) (by simp) (by simp) (by simp) (by simp)

/-- Settles O59: the blocks of events, reports and patrol each keep their invariant by themselves; the running
command ends with the work it stands for. -/
theorem stepKeepsEventsReportsAndCursor : Obligations.StepKeepsEventsReportsAndCursor := fun _ _ stepped =>
  ⟨eventInv_keptByAll.step stepped, reportInv_keptByAll.step stepped, patrolInv_keptByAll.step stepped,
    stepInv_keptByAll.step stepped,
    fun table copy command => (commandInv_keptByAll.step stepped ⟨⟨table, copy⟩, command⟩).2⟩

end Sys2Proof.Machine
end

section
/-! Power, start and warm reset (9.4, and the resets of every chapter). -/

namespace Sys2Proof.Machine

/-! ### Power-on values -/

@[simp] theorem reset_bank (b : Bank) : State.reset.bank b = .initial := by simp [State.bank, State.reset]

@[simp] theorem reset_remap (b : Bank) : State.reset.remap b = .initial := by simp [State.remap, State.reset]

/-- Every block at its power-on values, with power or without (R41, R60, R78, R97, R120, R136, R149, R168, R184,
R189, R193). -/
theorem atPowerOn_values (s : State) (v : Bool) : AtPowerOn { powerOnValues s with powered := v } where
  config := ⟨rfl, rfl⟩
  req := rfl
  buffers i := by simp [powerOnValues, State.reset, Buffers.line]
  bufWindow := ⟨rfl, rfl⟩
  cpl := rfl
  banks b := by rw [State.bank_powered, powerOnValues_bank]
  refreshTimer := rfl
  remap b := by rw [State.remap_powered, powerOnValues_remap]
  remapSelect := ⟨rfl, rfl⟩
  mig := rfl
  records i := by simp [powerOnValues, State.reset, FaultTable.slot]
  candidates := rfl
  frtWindow := ⟨rfl, rfl, rfl⟩
  ptl := rfl
  burn := ⟨rfl, rfl⟩
  mnt := rfl
  evt := rfl
  uer := rfl
  array := rfl

theorem atPowerOn_reset : AtPowerOn State.reset := atPowerOn_values State.reset true

/-- Settles O6: the reset state, power-on and power loss share the power-on values, and keep the store's slots. -/
theorem powerGivesPowerOnValues : Obligations.PowerGivesPowerOnValues := by
  refine ⟨⟨atPowerOn_reset, rfl, rfl, rfl, fun i => ?_⟩, fun s unpowered => ?_, fun s powered => ?_⟩
  · simp [State.reset, RepairStore.slot]
  · exact ⟨_, exec_powerOn_of_unpowered unpowered, rfl, rfl, atPowerOn_values s true, rfl, fun _ => rfl⟩
  · exact ⟨{ powerOnValues s with powered := false }, by simp [exec, execPowerLoss, losePower, powered], rfl,
      atPowerOn_values s false, rfl, fun _ => rfl⟩

/-- Settles O52: in the reset state no request, migration, step, clear or command is under way. -/
theorem resetMeetsTheInvariants : Obligations.ResetMeetsTheInvariants := by
  have slot (i : Fin 32) : State.reset.frt.slot i = none := atPowerOn_reset.records i
  refine ⟨rfl, .of_none rfl (fun i => ?_) rfl (fun b => ?_), .of_calm (initial_tablesAgree (by simp)) rfl,
    .of_none (fun i j r q hr => ?_) (fun i r hr => ?_), ⟨List.nodup_nil, fun i => ?_⟩, fun u hu => ?_,
    patrolInv_of_none rfl, ⟨rfl, rfl⟩, ⟨Nat.zero_le 8, nofun⟩, .of_none (by simp [State.reset]) (fun b => ?_),
    .of_rest trivial (fun b => ?_) (fun b => ?_), .of_none rfl (fun b => ?_) (fun b => ?_),
    .of_idle rfl rfl (fun b => ?_) id rfl (by simp [State.reset]) (by simp [State.reset])⟩
  · simp [atPowerOn_reset.buffers i]
  · simp [BankSection.initial, BankSection.hostWork]
  · simp [slot] at hr
  · simp [slot] at hr
  · exact iff_of_false (by simp [atPowerOn_reset.candidates]) (by simp [FaultTable.isCandidate, slot])
  · simp [atPowerOn_reset.burn] at hu
  · simp [BankSection.initial]
  · simp [BankSection.initial]
  · simp [BankSection.initial, BankSection.copies]
  · simp [BankSection.initial]
  · simp [BankSection.initial, BankSection.scrubs]
  · simp [BankSection.initial, BankSection.calm, BankSection.clears]

/-! ### Start and restart (9.4) -/

/-- Settles O7: an assertion of RST in start and its release both begin the start again; the ends of RESTARTING
and of ARRAY_INIT make the controller READY. -/
theorem startAndRestartLeadToReady : Obligations.StartAndRestartLeadToReady := by
  refine ⟨fun s powered released starting => ?_, fun s powered held starting => ?_,
    fun s powered held state => ?_, fun s powered released state => ?_, fun s powered released state => ?_⟩
  · refine ⟨beginStart { s with rstAsserted := true },
      by simp [exec, execRstAssert, assertRst, powered, released, starting], by simp, rfl, beginStart_remap _, rfl,
      rfl, by simp [keepsAllBut_iff]⟩
  · refine ⟨by simp [exec, execLoadingEnd, endLoading, held], by simp [exec, execArrayInitEnd, endArrayInit, held],
      beginStart { s with rstAsserted := false }, ?_, by simp, rfl, beginStart_remap _, by simp [keepsAllBut_iff]⟩
    cases state : s.hpt.state with
    | starting phase => simp [exec, execRstRelease, releaseRst, held, powered, state]
    | _ => simp [state, inStart] at starting
  · exact ⟨({ s with rstAsserted := false } : State).setHpt { s.hpt with state := .restarting },
      by simp [exec, execRstRelease, releaseRst, held, powered, state], rfl, rfl, by simp [keepsAllBut_iff]⟩
  · exact ⟨becomeReady s, by simp [exec, execRestartingEnd, endRestarting, released, powered, state], rfl, rfl,
      by simp [keepsAllBut_iff]⟩
  · exact ⟨(becomeReady s).setRefreshTimer .running,
      by simp [exec, execArrayInitEnd, endArrayInit, released, powered, state], rfl, rfl, rfl,
      by simp [keepsAllBut_iff]⟩

/-! ### Warm reset -/

theorem FaultTable.atReset_select (f : FaultTable) : f.atReset.select = 0 := by
  unfold FaultTable.atReset; split <;> rfl

/-- A bank section at the assertion of RST (R42). -/
theorem resetBank_cases (k : BankSection) :
    resetBank k = { BankSection.initial with
      phase := (resetBank k).phase, condition := (resetBank k).condition, debt := k.debt } ∧
    (k.phase = .idle → (resetBank k).phase = .idle) ∧ (k.phase = .retained → (resetBank k).phase = .idle) ∧
    (∀ op d, k.phase = .busy op d → (resetBank k).phase = .busy op .discard) ∧
    (k.condition = .clearing → (resetBank k).condition = .unformatted) ∧
    (k.condition ≠ .clearing → (resetBank k).condition = k.condition) := by
  refine ⟨rfl, fun h => ?_, fun h => ?_, fun op d h => ?_, fun h => ?_, fun h => ?_⟩ <;> simp [resetBank, h]

/-- Settles O8: the warm reset replaces every block but the array, the store's slots and the refresh debts. -/
theorem warmResetClearsTheBlocks : Obligations.WarmResetClearsTheBlocks := by
  intro s powered released started
  refine ⟨_, exec_rstAssert_of_started powered released started, rfl, rfl, rfl,
    fun i => by simp [Buffers.atReset, Buffers.line], rfl, rfl, rfl, rfl, rfl, rfl, rfl, rfl, rfl, rfl,
    FaultTable.atReset_select _, FaultTable.atReset_holdB _, FaultTable.atReset_holdC _, rfl, rfl,
    fun b => ?_, by simp [keepsAllBut_iff, warmReset]⟩
  rw [warmReset_bank]
  exact resetBank_cases (s.bank b)

/-- The entries after a warm reset: those that were ACTIVE, and a PENDING one with a current spare back on it
(R97). -/
theorem RemapInv.mem_revertPending {s : State} (h : RemapInv s) (b : Bank) (e : RemapEntry) :
    e ∈ (s.remap b).revertPending.entries ↔ e.isPending = false ∧ (e ∈ (s.remap b).entries ∨
      ∃ c p n k, e.state = .active c ∧
        ⟨e.row, .pending (some c) p n k, e.origin⟩ ∈ (s.remap b).entries) := by
  obtain ⟨agrees, -⟩ := h.revertPending b
  rw [BankRemap.mem_entries_iff agrees.rows, BankRemap.mem_entries_iff (h.banks b).rows]
  unfold BankRemap.revertPending
  cases found : (s.remap b).pending? with
  | none =>
    have calm := BankRemap.pending?_eq_none_iff.mp found
    constructor
    · exact fun old => ⟨calm e (BankRemap.mem_of_entry? old), .inl old⟩
    · rintro ⟨-, old | ⟨c, p, n, k, -, old⟩⟩
      · exact old
      · have := calm _ old
        simp [RemapEntry.isPending] at this
  | some d =>
    obtain ⟨old, ⟨c, t, u, r, state⟩, -⟩ := h.of_pending? found
    have only (x : RemapEntry) (hx : x ∈ (s.remap b).entries) (pending : x.isPending = true) : x = d :=
      Option.some.inj ((h.pending?_eq hx pending).symm.trans found)
    dsimp only
    rw [BankRemap.entry?_revert old state .free]
    constructor
    · intro now
      split at now
      · obtain ⟨c', current, rfl⟩ := Option.map_eq_some_iff.mp now
        refine ⟨rfl, .inr ⟨c', t, u, r, rfl, ?_⟩⟩
        have : d = ⟨d.row, .pending (some c') t u r, d.origin⟩ := by
          have same : c = some c' := by simpa [RemapEntry.current, state] using current
          rw [← same, ← state]
        exact this ▸ BankRemap.mem_of_entry? old
      · rename_i other
        refine ⟨?_, .inl now⟩
        by_contra pending
        exact other (only e (BankRemap.mem_of_entry? now) (by simpa using pending) ▸ rfl)
    · rintro ⟨calm, now | ⟨c', p, n, k, active, was⟩⟩
      · have other : e.row ≠ d.row := fun same => by
          rw [same, old] at now
          cases now
          simp [RemapEntry.isPending, state] at calm
        simp [other, now]
      · have same := only _ was rfl
        rw [← same, if_pos rfl]
        simp only [BankRemap.reverted, RemapEntry.current_pending, Option.map_some, Option.some.injEq]
        rw [← active]

/-- The spares after a warm reset: the target of the PENDING entry is FREE again (R97). -/
theorem RemapInv.spare_revertPending {s : State} (h : RemapInv s) (b : Bank) (i : SpareIdx) :
    (s.remap b).revertPending.spare i =
      if (s.remap b).spare i = .target then .free else (s.remap b).spare i := by
  unfold BankRemap.revertPending
  have owner (aimed : (s.remap b).spare i = .target) :
      ∃ e, (s.remap b).pending? = some e ∧ e.target? = some i := by
    obtain ⟨e, he, target⟩ := ((h.banks b).target i).mp aimed
    refine ⟨e, h.pending?_eq he ?_, target⟩
    by_contra calm
    simp [RemapEntry.target?_of_active (by simpa using calm)] at target
  cases found : (s.remap b).pending? with
  | none =>
    have : (s.remap b).spare i ≠ .target := fun aimed => by
      obtain ⟨e, he, -⟩ := owner aimed
      simp [found] at he
    simp [this]
  | some d =>
    obtain ⟨old, ⟨c, t, u, r, state⟩, -⟩ := h.of_pending? found
    dsimp only
    rw [BankRemap.spare_revert state]
    by_cases same : i = t
    · simp [same, ((h.banks b).of_pending old state).1]
    · have : (s.remap b).spare i ≠ .target := fun aimed => by
        obtain ⟨e, he, target⟩ := owner aimed
        rw [found] at he
        cases he
        simp only [RemapEntry.target?, state, Option.some.injEq] at target
        exact same target.symm
      simp [same, this]

/-- The slot of the only MIGRATING record is found (R123). -/
theorem FaultTable.migratingSlot?_of_only {f : FaultTable} {i : Fin 32} {r : FaultRecord}
    (slot : f.slot i = some r) (moving : r.state = .migrating)
    (only : ∀ j q, f.slot j = some q → q.state = .migrating → j = i) : f.migratingSlot? = some i := by
  cases found : f.migratingSlot? with
  | none => exact absurd moving (FaultTable.migratingSlot?_eq_none_iff.mp found i r slot)
  | some j =>
    obtain ⟨q, hq, state⟩ := FaultTable.slot_of_migratingSlot? found
    rw [only j q hq state]

/-- Settles O9: the revert of the PENDING entry and the release of its record. -/
theorem warmResetRevertsTheMigration : Obligations.WarmResetRevertsTheMigration := by
  intro s powered released started table records
  have remap (b : Bank) : (warmReset { s with rstAsserted := true }).remap b = (s.remap b).revertPending :=
    warmReset_remap _ b
  have frt : (warmReset { s with rstAsserted := true }).frt = s.frt.atReset := rfl
  refine ⟨_, exec_rstAssert_of_started powered released started, fun b e => ?_, fun b i => ?_,
    fun i r slot moving => ?_, fun i other => ?_, fun none => ?_⟩
  · rw [remap]
    exact table.mem_revertPending b e
  · rw [remap]
    exact table.spare_revertPending b i
  · have found := FaultTable.migratingSlot?_of_only slot moving
      fun j q hq state => records.one j i q r hq state slot moving
    rw [frt, FaultTable.slot_atReset, FaultTable.slot_release, if_pos found, slot]
    exact ⟨rfl, by simp only [FaultTable.atReset, found]⟩
  · rw [frt, FaultTable.slot_atReset, FaultTable.slot_release, if_neg]
    intro found
    obtain ⟨r, slot, moving⟩ := FaultTable.slot_of_migratingSlot? found
    exact other r slot moving
  · rw [frt]
    simp only [FaultTable.atReset, FaultTable.migratingSlot?_eq_none_iff.mpr none]

end Sys2Proof.Machine
end

section
/-! Accesses of the register window: the closed window, submits, buffers, pops, events (3.2 to 3.4, 4.7,
11.1 to 11.3): O32, O33, O34, O35, O37, O40. -/

namespace Sys2Proof.Machine

/-- A command answers the state that `after` gives for it. -/
theorem next_of_after {c : Instr} {s t : State} (h : after c s = t) : exec c s = .next t :=
  h ▸ exec_eq_next c s

/-! ### The closed window (R165) -/

theorem State.onWrite_of_closed {s : State} (closed : s.windowOpen = false) (effect : State → State) :
    s.onWrite effect = s := by simp [State.onWrite, closed]

theorem State.onRead_of_closed {s : State} (closed : s.windowOpen = false) (powered : s.powered = true)
    (effect : State → State) : s.onRead effect = s.setReadData 0 := by simp [State.onRead, closed, powered]

theorem takeCommand_of_closed {s : State} (closed : s.windowOpen = false) (c : MntCommand)
    (body : MntArg → State → State) : takeCommand c body s = s := State.onWrite_of_closed closed _

theorem writeCommand_of_closed {s : State} (closed : s.windowOpen = false) (code : BitVec 8) :
    writeCommand code s = s := takeCommand_of_closed closed _ _

/-- Every access that is not one of the two reads is a write, which a closed window ignores (R165). -/
theorem after_write_of_closed {c : Instr} {s : State} (closed : s.windowOpen = false)
    (access : isAccess c = true) (write : isAccessRead c = false) : after c s = s := by
  cases c <;> simp [isAccess, isAccessRead] at access write <;>
    simp [after, State.onWrite_of_closed closed, takeCommand_of_closed closed, writeCommand_of_closed closed]

/-- The two reads return 0 from a closed window (R165). -/
theorem after_read_of_closed {c : Instr} {s : State} (closed : s.windowOpen = false)
    (powered : s.powered = true) (read : isAccessRead c = true) : after c s = s.setReadData 0 := by
  cases c with
  | bufDataRead => exact State.onRead_of_closed closed powered _
  | frtEntryARead => exact State.onRead_of_closed closed powered _
  | _ => cases read

/-- A flag is a field of one bit. -/
theorem placeFlag_eq (low : Nat) (flag : Bool) : placeFlag low flag = place low flag.toNat := by
  cases flag <;> simp [placeFlag, flagBit, place]

theorem ControllerState.code_lt (v : ControllerState) : v.code < 8 := by
  cases v <;> simp [ControllerState.code]

/-- HPT_STATE: the code below the sub-phase bit (R163). -/
theorem readState_toNat (s : State) :
    (readState s).toNat = s.hpt.state.code + s.hpt.state.arrayInit.toNat * 2 ^ 4 := by
  have small := s.hpt.state.code_lt
  have flag := s.hpt.state.arrayInit.toNat_lt
  rw [readState, placeFlag_eq]
  exact or_place_toNat (place_zero_toNat (by omega)) (by omega) (by omega)

theorem readRegister_of_closed {s : State} (closed : s.windowOpen = false) (o : BitVec 8) :
    readRegister s o = if o = 0x00 then readId else if o = 0x04 then readState s else 0 := by
  simp [readRegister, closed]

/-- Settles O32: every write of the window is an `onWrite` and both reads are an `onRead`, which a closed
window turns into nothing and into the read of 0. -/
theorem closedWindowIgnoresAccesses : Obligations.ClosedWindowIgnoresAccesses := by
  intro s closed powered
  refine ⟨fun c access write => ?_, fun c read => ?_, fun o noId noState => ?_, ?_, ?_⟩
  · exact next_of_after (after_write_of_closed closed access write)
  · exact ⟨s.setReadData 0, next_of_after (after_read_of_closed closed powered read), rfl,
      by simp [keepsAllBut_iff]⟩
  · rw [readRegister_of_closed closed, if_neg noId, if_neg noState]
  · exact readRegister_of_closed closed 0
  · rw [readRegister_of_closed closed, if_neg (by simp), if_pos rfl, readState_toNat]
    cases s.hpt.state.arrayInit <;> rfl

/-! ### Busy unit (R170) -/

/-- A proper command is written by its own row of the table of instructions, or by BAD_COMMAND. -/
theorem after_write {c : MntCommand} (proper : c.proper) (s : State) :
    after c.write s = takeCommand c (commandBody c) s := by
  cases c with
  | unknown code =>
    have named : MntCommand.ofCode code = .unknown code := by
      have out : code.toNat < 1 ∨ 10 < code.toNat := by
        simp only [MntCommand.proper, namesCommand, Bool.and_eq_false_iff, decide_eq_false_iff_not] at proper
        omega
      have other (k : BitVec 8) (low : 1 ≤ k.toNat) (high : k.toNat ≤ 10) : code ≠ k := by
        rintro rfl
        omega
      simp [MntCommand.ofCode, other]
    show writeCommand code s = _
    rw [writeCommand, named]
  | _ => rfl

theorem takeCommand_of_busy {s : State} (isOpen : s.windowOpen = true) (busy : s.mnt.running ≠ none)
    (c : MntCommand) (body : MntArg → State → State) : takeCommand c body s = s.latch .maintRefusedBusy := by
  obtain ⟨r, running⟩ := Option.ne_none_iff_exists'.mp busy
  rw [takeCommand, State.onWrite_of_open isOpen, running]

theorem State.latch_latchesOnly (s : State) (e : Event) : latchesOnly e s (s.latch e) := rfl

/-- Settles O40. -/
theorem busyUnitRefusesEveryCommand : Obligations.BusyUnitRefusesEveryCommand := by
  intro c s proper isOpen busy
  refine ⟨s.latch .maintRefusedBusy, next_of_after ?_, s.latch_latchesOnly _, by simp [keepsAllBut_iff]⟩
  rw [after_write proper, takeCommand_of_busy isOpen busy]

/-! ### Pops (R76, R192) -/

theorem exec_cplPop_of_open {s : State} (isOpen : s.windowOpen = true) (w : Word) :
    exec (.cplPop w) s = .next (popCompletion s) := next_of_after (State.onWrite_of_open isOpen _)

theorem exec_uerPop_of_open {s : State} (isOpen : s.windowOpen = true) (w : Word) :
    exec (.uerPop w) s = .next (popReport s) := next_of_after (State.onWrite_of_open isOpen _)

/-- Settles O35. -/
theorem popsRemoveTheHead : Obligations.PopsRemoveTheHead := by
  intro w s isOpen
  rw [exec_cplPop_of_open isOpen, exec_uerPop_of_open isOpen]
  refine ⟨fun none => ?_, fun c rest head => ?_, fun none => ?_, fun r rest head => ?_⟩
  · have same : s.cpl.tail = s.cpl := by rw [none]; rfl
    rw [popCompletion, same]
    rfl
  · exact ⟨_, rfl, by simp [popCompletion, head], by simp [popCompletion, keepsAllBut_iff]⟩
  · rw [popReport, none]
  · refine ⟨_, rfl, by simp [popReport, head], ?_, by simp [popReport, head, keepsAllBut_iff]⟩
    cases rest <;> simp [popReport, head]

/-! ### Line buffers (R56 to R58) -/

theorem exec_bufDataRead_of_open {s : State} (isOpen : s.windowOpen = true) :
    exec .bufDataRead s = .next (readBufData s) := next_of_after (State.onRead_of_open isOpen _)

theorem exec_bufDataWrite_of_open {s : State} (isOpen : s.windowOpen = true) (w : Word) :
    exec (.bufDataWrite w) s = .next (writeBufData w s) := next_of_after (State.onWrite_of_open isOpen _)

theorem readBufData_of_host {s : State} (host : (s.buf.line s.buf.selected).state = .host) :
    readBufData s =
      (s.setReadData (s.buf.line s.buf.selected).words[s.buf.index]).setBuf s.buf.advance := by
  simp [readBufData, host]

theorem writeBufData_of_host {s : State} (host : (s.buf.line s.buf.selected).state = .host) (w : Word) :
    writeBufData w s = s.setBuf (s.buf.setLine s.buf.selected
      { s.buf.line s.buf.selected with
        words := (s.buf.line s.buf.selected).words.set s.buf.index.val w s.buf.index.isLt }).advance := by
  simp [writeBufData, host]

/-- The word index moves on from 7 to 0 (R56). -/
theorem wordIdx_add_one (i : WordIdx) : (i + 1).val = (i.val + 1) % 8 := Fin.val_add i 1

theorem Buffers.line_advance (u : Buffers) (i : BufferIdx) : u.advance.line i = u.line i := rfl

/-- Settles O34. -/
theorem bufferDataAccesses : Obligations.BufferDataAccesses := by
  intro s isOpen
  rw [exec_bufDataRead_of_open isOpen]
  simp only [exec_bufDataWrite_of_open isOpen]
  refine ⟨fun host => ?_, fun host w => ?_, fun locked => ⟨?_, fun w => ?_⟩⟩
  · rw [readBufData_of_host host]
    exact ⟨_, rfl, rfl, ⟨_, wordIdx_add_one _, rfl⟩, by simp [keepsAllBut_iff]⟩
  · rw [writeBufData_of_host host]
    refine ⟨_, rfl, wordIdx_add_one _, rfl, ?_, fun j => ?_, fun i other => ?_, by simp [keepsAllBut_iff]⟩
    · simp [Buffers.line_advance, host]
    · simp [Buffers.line_advance, Vector.getElem_set, Fin.ext_iff, eq_comm]
    · simp [Buffers.line_advance, Buffers.line_setLine_ne _ _ other]
  · refine ⟨(s.setReadData 0).latch .bufferFault, ?_, by simp, rfl, by simp [keepsAllBut_iff]⟩
    simp [readBufData, locked]
  · refine ⟨s.latch .bufferFault, ?_, rfl, by simp [keepsAllBut_iff]⟩
    simp [writeBufData, locked]

/-! ### Submit (Table 3-2) -/

theorem exec_submit_of_open {s : State} (isOpen : s.windowOpen = true) (w : Word) :
    exec (.submit w) s = .next (submitRequest w s) := next_of_after (State.onWrite_of_open isOpen _)

/-- The states in which the window is open are those in which REQ takes requests (R165). -/
theorem takesRequests_of_open {s : State} (isOpen : s.windowOpen = true) :
    takesRequests s.hpt.state = true := by
  simp only [State.windowOpen, Bool.and_eq_true] at isOpen
  revert isOpen
  cases s.hpt.state <;> simp [takesRequests]

theorem RequestLatch.kind?_eq_none_iff {l : RequestLatch} :
    l.kind? = none ↔ ¬(l.kindCode = 1#2 ∨ l.kindCode = 2#2) := by
  unfold RequestLatch.kind?
  split <;> [simp [*]; (split <;> simp [*])]

theorem RequestLatch.kind?_of_named {l : RequestLatch} (named : l.kindCode = 1#2 ∨ l.kindCode = 2#2) :
    l.kind? = some (if l.kindCode = 1#2 then .read else .write l.mask) := by
  obtain code | code := named <;> simp [RequestLatch.kind?, code]

/-- EMPTY_MASK is a WRITE with no flag of the mask set (Table 3-2, check 5). -/
theorem emptyMask_of_named {l : RequestLatch} (named : l.kindCode = 1#2 ∨ l.kindCode = 2#2) :
    (if l.kindCode = 1#2 then RequestKind.read else .write l.mask).emptyMask =
      decide (l.kindCode = 2#2 ∧ l.mask = 0#8) := by
  obtain code | code := named <;> simp [RequestKind.emptyMask, code]
  rfl

theorem rowField_val (w : Word) : (rowField w).val = (w.extractLsb' 4 14).toNat := rfl

theorem logicalRow?_of_lt {f : Fin 16384} (h : f.val < 8192) : logicalRow? f = some ⟨f.val, h⟩ := dif_pos h

theorem logicalRow?_of_ge {f : Fin 16384} (h : 8192 ≤ f.val) : logicalRow? f = none := dif_neg (by omega)

theorem submitRequest_of_error {w : Word} {s : State} {r : SubmitResult} (h : checkSubmit s w = .error r) :
    submitRequest w s = rejectRequest r s := by simp [submitRequest, h]

theorem submitRequest_of_ok {w : Word} {s : State} {q : Request} (h : checkSubmit s w = .ok q) :
    submitRequest w s = acceptRequest q s := by simp [submitRequest, h]

/-- A rejected submit shows its result and latches SUBMIT_REJECTED (R50). -/
theorem exec_submit_rejected {w : Word} {s : State} {r : SubmitResult} (isOpen : s.windowOpen = true)
    (h : checkSubmit s w = .error r) :
    ∃ t, exec (.submit w) s = .next t ∧
      t.req = { s.req with result := r, resultTag := s.req.latch.tag } ∧
      latchesOnly .submitRejected s t ∧ keepsAllBut [.req, .evt] s t := by
  rw [exec_submit_of_open isOpen, submitRequest_of_error h]
  exact ⟨_, rfl, rfl, rfl, by simp [rejectRequest, keepsAllBut_iff]⟩

/-- Settles O33: `checkSubmit` taken check by check, then the two ends of a submit. -/
theorem submitIsAcceptedOrRejected : Obligations.SubmitIsAcceptedOrRejected := by
  intro w s isOpen
  have takes := takesRequests_of_open isOpen
  refine ⟨fun full => ?_, fun room unnamed => ?_, fun room named high => ?_, fun room named row empty => ?_,
    fun room named row masked held => ?_, fun room named row masked fresh locked => ?_,
    fun room named row masked fresh host => ?_⟩
  · exact exec_submit_rejected isOpen (by simp [checkSubmit, takes, full])
  · have kind := RequestLatch.kind?_eq_none_iff.mpr unnamed
    exact exec_submit_rejected isOpen (by simp [checkSubmit, takes, room, kind])
  · have kind := RequestLatch.kind?_of_named named
    have none := logicalRow?_of_ge (f := rowField w) high
    exact exec_submit_rejected isOpen (by simp [checkSubmit, takes, room, kind, none])
  all_goals
    have kind := RequestLatch.kind?_of_named named
    have some := logicalRow?_of_lt (f := rowField w) row
    have mask := emptyMask_of_named named
  · have code := decide_eq_true (Decidable.of_not_not empty)
    exact exec_submit_rejected isOpen (by simp [checkSubmit, takes, room, kind, some, mask, code])
  · have code := decide_eq_false masked
    have dup : (s.req.held.any fun h => h.request.tag == s.req.latch.tag) = true := by simpa using held
    exact exec_submit_rejected isOpen (by simp [checkSubmit, takes, room, kind, some, mask, code, dup])
  all_goals
    have code := decide_eq_false masked
    have new : (s.req.held.any fun h => h.request.tag == s.req.latch.tag) = false := by simpa using fresh
  · exact exec_submit_rejected isOpen (by simp [checkSubmit, takes, room, kind, some, mask, code, new, locked])
  · have ok : checkSubmit s w = .ok (formRequest s.req.latch
        (if s.req.latch.kindCode = 1#2 then .read else .write s.req.latch.mask) ⟨(rowField w).val, row⟩ w) := by
      simp [checkSubmit, takes, show ¬8 ≤ s.req.held.length by omega, kind, some, mask, code, new, host]
    rw [exec_submit_of_open isOpen, submitRequest_of_ok ok]
    refine ⟨_, _, rfl, rfl, rfl, fun code => if_pos code, fun code => if_neg ?_, rfl, rfl, rfl, rfl, ?_,
      fun i other => ?_, rfl, rfl, by simp [acceptRequest, keepsAllBut_iff]⟩
    · simp [code]
    · simp [acceptRequest, formRequest]
    · simp [acceptRequest, formRequest, Buffers.line_setLine_ne _ _ other]

/-! ### Events, mask and INT (R185 to R188) -/

theorem flagBit_getLsbD (condition : Bool) {p : Nat} (small : p < 32) (i : Nat) :
    (flagBit condition p).getLsbD i = (condition && decide (i = p)) := by
  cases condition
  · simp [flagBit]
  · have one : (1#32 <<< p) = BitVec.twoPow 32 p := rfl
    simp [flagBit, one, BitVec.getLsbD_twoPow, small, eq_comm]

/-- EVT_STATUS bit by bit: three level bits, and the latched bits at their positions (R185). -/
theorem eventStatus_getLsbD (s : State) (i : Nat) :
    s.eventStatus.getLsbD i = ((s.evt.latched.getLsbD i && decide (8 ≤ i ∧ i < 18)) ||
      ((!s.cpl.isEmpty && decide (i = 0)) || (!s.uer.reports.isEmpty && decide (i = 1)) ||
        (!s.frt.queue.isEmpty && decide (i = 2)))) := by
  simp only [State.eventStatus, State.levelBits, BitVec.getLsbD_or, BitVec.getLsbD_and,
    latchedPositions_getLsbD]
  rw [flagBit_getLsbD _ (by omega), flagBit_getLsbD _ (by omega), flagBit_getLsbD _ (by omega)]

theorem maskPositions_getLsbD (i : Nat) :
    (latchedPositions ||| levelPositions).getLsbD i = (decide (i ≤ 2) || decide (8 ≤ i ∧ i ≤ 17)) := by
  by_cases h : i < 32
  · interval_cases i <;> rfl
  · rw [BitVec.getLsbD_of_ge _ _ (by omega)]
    simp
    omega

theorem word_ne_zero_iff (w : Word) : w ≠ 0#32 ↔ ∃ i : Nat, w.getLsbD i = true := by
  constructor
  · intro nonzero
    by_contra none
    refine nonzero (BitVec.eq_of_getLsbD_eq fun i _ => ?_)
    simpa using fun bit => none ⟨i, bit⟩
  · rintro ⟨i, bit⟩ rfl
    simp at bit

/-- The latched positions are those of the events (Table 11-1). -/
theorem Event.exists_position {i : Nat} (low : 8 ≤ i) (high : i < 18) : ∃ e : Event, e.position = i := by
  interval_cases i
  exacts [⟨.maintDone, rfl⟩, ⟨.migrationEnd, rfl⟩, ⟨.spareExhausted, rfl⟩, ⟨.recordTableFull, rfl⟩,
    ⟨.uerOverflow, rfl⟩, ⟨.submitRejected, rfl⟩, ⟨.bufferFault, rfl⟩, ⟨.maintRefusedBusy, rfl⟩, ⟨.passEnd, rfl⟩,
    ⟨.ready, rfl⟩]

theorem readRegister_of_open {s : State} (isOpen : s.windowOpen = true) (o : BitVec 8) :
    readRegister s o = openRead s o := if_pos isOpen

/-- Settles O37. -/
theorem eventsMaskAndInterrupt : Obligations.EventsMaskAndInterrupt := by
  refine ⟨fun w s isOpen => ?_, fun w s isOpen => ?_, fun s => ?_, fun s => ?_⟩
  · exact ⟨acknowledge w s, next_of_after (State.onWrite_of_open isOpen _), rfl, acknowledge_isLatched w s,
      by simp [State.levelBits], readRegister_of_open isOpen _, by simp [keepsAllBut_iff]⟩
  · refine ⟨storeMask w s, next_of_after (State.onWrite_of_open isOpen _), rfl, fun i => ?_,
      by simp [keepsAllBut_iff]⟩
    show (w &&& (latchedPositions ||| levelPositions)).getLsbD i = _
    rw [BitVec.getLsbD_and, maskPositions_getLsbD]
  · rw [State.interrupt, bne_iff_ne, word_ne_zero_iff]
    simp [BitVec.getLsbD_and]
  · refine ⟨(eventStatus_getLsbD s 0).trans (by simp), (eventStatus_getLsbD s 1).trans (by simp),
      (eventStatus_getLsbD s 2).trans (by simp), fun e => ?_, fun i unnamed high => ?_⟩
    · have bounds := e.position_lt
      have level : e.position ≠ 0 ∧ e.position ≠ 1 ∧ e.position ≠ 2 := by omega
      simp [eventStatus_getLsbD, State.isLatched_eq, bounds, level]
    · have out : ¬(8 ≤ i ∧ i < 18) := fun ⟨low, high⟩ =>
        (Event.exists_position low high).elim fun e at' => unnamed e at'
      have level : i ≠ 0 ∧ i ≠ 1 ∧ i ≠ 2 := by omega
      rw [eventStatus_getLsbD, decide_eq_false out]
      simp [level]

end Sys2Proof.Machine
end

section
/-! Registers: the writes that only store, and what the status registers return (11.4 to 11.6): O38, O39. -/

namespace Sys2Proof.Machine

/-! ### Stored fields read back (Table 11-4) -/

/-- The bits of a word that a field of `len` bits from `low` up holds. -/
def fieldMask (low len : Nat) : Word := BitVec.ofNat 32 (2 ^ len - 1) <<< low

/-- A field cut out of a word and placed back where it stood. -/
theorem place_extract (w : Word) {low len : Nat} (fits : low + len ≤ 32) :
    place low (w.extractLsb' low len).toNat = w &&& fieldMask low len := by
  refine BitVec.eq_of_getLsbD_eq fun i small => ?_
  simp only [place, fieldMask, BitVec.getLsbD_and, BitVec.getLsbD_shiftLeft, BitVec.getLsbD_ofNat,
    BitVec.testBit_toNat, BitVec.getLsbD_extractLsb', Nat.testBit_two_pow_sub_one]
  by_cases below : i < low
  · simp [below]
  · have back : low + (i - low) = i := by omega
    have inWord : i - low < 32 := by omega
    simp [below, small, inWord, back, Bool.and_comm]

/-- A flag cut out of a word and placed back where it stood. -/
theorem placeFlag_getLsbD (w : Word) (i : Nat) :
    placeFlag i (w.getLsbD i) = w &&& fieldMask i 1 := by
  have one : fieldMask i 1 = BitVec.twoPow 32 i := rfl
  rw [one, BitVec.and_twoPow]
  rfl

theorem registerWrite_of_open {s : State} (isOpen : s.windowOpen = true) (o : BitVec 8) (w : Word) :
    exec (.registerWrite o w) s = .next (writeRegister o w s) := next_of_after (State.onWrite_of_open isOpen _)

theorem State.windowOpen_congr {s t : State} (isOpen : s.windowOpen = true) (powered : t.powered = s.powered)
    (state : t.hpt.state = s.hpt.state) : t.windowOpen = true := by
  rw [← isOpen]
  simp only [State.windowOpen, powered, state]

/-- A write of a plain register at an offset that no register listens to (R194). -/
theorem writeRegister_ignored {o : BitVec 8} {w : Word} {s : State}
    (formed : Instr.wellFormed (.registerWrite o w) = true)
    (unlisted : o ∉ ([0x20, 0x38, 0x44, 0x60, 0x80, 0x90] : List (BitVec 8))) : writeRegister o w s = s := by
  simp only [Instr.wellFormed, ownRowOffsets, Bool.and_eq_true, Bool.not_eq_true', List.contains_eq_mem,
    decide_eq_false_iff_not, List.mem_cons, List.not_mem_nil, or_false, not_or] at formed unlisted
  simp only [writeRegister, plainWrite, formed, unlisted, if_false]

theorem readConfig_storeConfig (w : Word) (s : State) : readConfig (storeConfig w s) = w &&& 0x0000010F#32 := by
  calc readConfig (storeConfig w s)
      = place 0 (w.extractLsb' 0 4).toNat ||| placeFlag 8 (w.getLsbD 8) := rfl
    _ = w &&& fieldMask 0 4 ||| w &&& fieldMask 8 1 := by
        rw [place_extract w (by omega), placeFlag_getLsbD w 8]
    _ = w &&& 0x0000010F#32 := BitVec.and_or_distrib_left.symm

theorem readInterval_storeInterval (w : Word) (s : State) :
    readInterval (storeInterval w s) = w &&& 0x0000FFFF#32 := by
  calc readInterval (storeInterval w s)
      = (w.extractLsb' 0 16).setWidth 32 := rfl
    _ = place 0 (w.extractLsb' 0 16).toNat := by
        rw [place, BitVec.shiftLeft_zero]
        exact (BitVec.ofNat_toNat 32 _).symm
    _ = w &&& 0x0000FFFF#32 := place_extract w (by omega)

theorem readBufSelect_storeBufSelect (w : Word) (s : State) :
    readBufSelect (storeBufSelect w s) = w &&& 0x00000703#32 := by
  calc readBufSelect (storeBufSelect w s)
      = place 0 (w.extractLsb' 0 2).toNat ||| place 8 (w.extractLsb' 8 3).toNat := rfl
    _ = w &&& fieldMask 0 2 ||| w &&& fieldMask 8 3 := by
        rw [place_extract w (by omega), place_extract w (by omega)]
    _ = w &&& 0x00000703#32 := BitVec.and_or_distrib_left.symm

theorem readArg_storeArg (w : Word) (s : State) : readArg (storeArg w s) = w &&& 0x1F03FFF7#32 := by
  calc readArg (storeArg w s)
      = place 0 (w.extractLsb' 0 3).toNat ||| place 4 (w.extractLsb' 4 14).toNat |||
          place 24 (w.extractLsb' 24 5).toNat := rfl
    _ = w &&& fieldMask 0 3 ||| w &&& fieldMask 4 14 ||| w &&& fieldMask 24 5 := by
        rw [place_extract w (by omega), place_extract w (by omega), place_extract w (by omega)]
    _ = w &&& 0x1F03FFF7#32 := by
        rw [← BitVec.and_or_distrib_left, ← BitVec.and_or_distrib_left]
        rfl

theorem readRmpSelect_storeRmpSelect (w : Word) (s : State) :
    readRmpSelect (storeRmpSelect w s) = w &&& 0x0001FFF7#32 := by
  calc readRmpSelect (storeRmpSelect w s)
      = place 0 (w.extractLsb' 0 3).toNat ||| place 4 (w.extractLsb' 4 13).toNat := rfl
    _ = w &&& fieldMask 0 3 ||| w &&& fieldMask 4 13 := by
        rw [place_extract w (by omega), place_extract w (by omega)]
    _ = w &&& 0x0001FFF7#32 := BitVec.and_or_distrib_left.symm

/-- Settles O38: each store and the read of its register, as one word cut into the fields of Table 11-4. -/
theorem storingWritesReadBack : Obligations.StoringWritesReadBack := by
  intro w s isOpen
  have written (o : BitVec 8) : exec (.registerWrite o w) s = .next (writeRegister o w s) :=
    registerWrite_of_open isOpen o w
  have shown (t : State) (powered : t.powered = s.powered) (state : t.hpt.state = s.hpt.state)
      (o : BitVec 8) : readRegister t o = openRead t o :=
    readRegister_of_open (State.windowOpen_congr isOpen powered state) o
  refine ⟨⟨storeConfig w s, next_of_after (State.onWrite_of_open isOpen _), ?_, rfl, ?_⟩,
    ⟨storeInterval w s, next_of_after (State.onWrite_of_open isOpen _), ?_, rfl, ?_⟩,
    ⟨storeBufSelect w s, written 0x38, ?_, rfl, ?_⟩, ⟨storeArg w s, written 0x44, ?_, rfl, ?_⟩,
    ⟨storeFrtSelect w s, written 0x60, ?_, rfl, ?_⟩, ⟨storeRmpSelect w s, written 0x80, ?_, rfl, ?_⟩,
    ⟨storeRpsSelect w s, written 0x90, ?_, rfl, ?_⟩,
    ⟨storeLatch w s, written 0x20, shown _ rfl rfl 0x20, rfl, rfl, rfl, rfl, rfl, ?_⟩,
    fun o formed unlisted => (written o).trans (by rw [writeRegister_ignored formed unlisted])⟩
  · exact (shown (storeConfig w s) rfl rfl 0x08).trans (readConfig_storeConfig w s)
  rotate_left
  · exact (shown (storeInterval w s) rfl rfl 0x0C).trans (readInterval_storeInterval w s)
  rotate_left
  · exact (shown (storeBufSelect w s) rfl rfl 0x38).trans (readBufSelect_storeBufSelect w s)
  rotate_left
  · exact (shown (storeArg w s) rfl rfl 0x44).trans (readArg_storeArg w s)
  rotate_left
  · exact (shown (storeFrtSelect w s) rfl rfl 0x60).trans (place_extract w (len := 5) (by omega))
  rotate_left
  · exact (shown (storeRmpSelect w s) rfl rfl 0x80).trans (readRmpSelect_storeRmpSelect w s)
  rotate_left
  · exact (shown (storeRpsSelect w s) rfl rfl 0x90).trans (place_extract w (len := 6) (by omega))
  all_goals simp [keepsAllBut_iff]

end Sys2Proof.Machine
end

section
/-! The status registers, field by field (Table 11-4): O39. -/

namespace Sys2Proof.Machine

/-! ### Flags and fields -/

/-- The value of a flag that stands at bit `i`. -/
def flagValue (flag : Bool) (i : Nat) : Nat := if flag then 2 ^ i else 0

theorem flagValue_eq (flag : Bool) (i : Nat) : flagValue flag i = flag.toNat * 2 ^ i := by
  cases flag <;> simp [flagValue]

theorem flagValue_le (flag : Bool) (i : Nat) : flagValue flag i ≤ 2 ^ i := by
  cases flag <;> simp [flagValue]

theorem flag_fits (flag : Bool) {i : Nat} (fits : i < 32) : flag.toNat * 2 ^ i < 2 ^ 32 := by
  have small : 2 ^ i < 2 ^ 32 := Nat.pow_lt_pow_right (by omega) fits
  cases flag
  · simp
  · simpa using small

theorem placeFlag_toNat (flag : Bool) {i : Nat} (fits : i < 32) :
    (placeFlag i flag).toNat = flagValue flag i := by
  rw [placeFlag_eq, flagValue_eq, place_toNat (flag_fits flag fits)]

theorem or_placeFlag_toNat {x : Word} {lower low : Nat} {flag : Bool} (sofar : x.toNat = lower)
    (below : lower < 2 ^ low) (fits : low < 32) :
    (x ||| placeFlag low flag).toNat = lower + flagValue flag low := by
  rw [placeFlag_eq, flagValue_eq]
  exact or_place_toNat sofar below (flag_fits flag fits)

/-! ### How large the codes are -/

theorem SubmitResult.code_lt (v : SubmitResult) : v.code < 16 := by cases v <;> simp [SubmitResult.code]

theorem RecordKind.code_lt (v : RecordKind) : v.code < 4 := by cases v <;> simp [RecordKind.code]

theorem HostOutcome.code_lt (v : HostOutcome) : v.code < 16 := by cases v <;> simp [HostOutcome.code]

theorem HostOutcome.index_lt (v : HostOutcome) : v.index < 16 := by
  cases v <;> simp only [HostOutcome.index] <;> omega

theorem MntResult.code_lt (v : MntResult) : v.code < 32 := by cases v <;> simp [MntResult.code]

theorem EngineState.code_lt (v : EngineState) : v.code < 4 := by cases v <;> simp [EngineState.code]

theorem MigrationOutcome.code_lt (v : MigrationOutcome) : v.code < 8 := by
  cases v <;> simp [MigrationOutcome.code]

theorem Reader.code_lt (v : Reader) : v.code < 4 := by cases v <;> simp [Reader.code]

theorem SpareState.code_lt (v : SpareState) : v.code < 4 := by cases v <;> simp [SpareState.code]

theorem Condition.code_lt (v : Condition) : v.code < 4 := by cases v <;> simp [Condition.code]

theorem Phase.code_lt (v : Phase) : v.code < 4 := by cases v <;> simp [Phase.code]

/-- The shown outcome of the last migration, 0 where there is none. -/
theorem lastOutcome_lt (v : Option LastMigration) : (v.map fun v => v.outcome.code).getD 0 < 8 := by
  cases v with
  | none => exact Nat.zero_lt_succ 7
  | some v => exact v.outcome.code_lt

/-! ### The registers of one word -/

/-- The sub-phase bit is 0 while the window is open: the controller is not in STARTING (R165). -/
theorem arrayInit_of_open {s : State} (isOpen : s.windowOpen = true) : s.hpt.state.arrayInit = false := by
  simp only [State.windowOpen, Bool.and_eq_true] at isOpen
  revert isOpen
  cases s.hpt.state <;> simp [ControllerState.arrayInit]

theorem readResultReg_toNat (s : State) :
    (readResultReg s).toNat = s.req.result.code + s.req.resultTag.toNat * 2 ^ 8 := by
  have small := s.req.result.code_lt
  exact or_place_toNat (place_zero_toNat (by omega)) (by omega) (by omega)

theorem readLevel_toNat {s : State} (held : s.req.held.length ≤ 8) (cpl : s.cpl.length ≤ 8) :
    (readLevel s).toNat = s.req.held.length + s.req.inFlight * 2 ^ 8 + s.cpl.length * 2 ^ 16 := by
  have flight : s.req.inFlight ≤ s.req.held.length := List.countP_le_length
  have low := place_zero_toNat (value := s.req.held.length) (by omega)
  exact or_place_toNat (or_place_toNat low (by omega) (by omega)) (by omega) (by omega)

theorem completionWord_toNat (c : Completion) :
    (completionWord c).toNat = c.tag.toNat + c.kind.code * 2 ^ 8 + c.outcome.code * 2 ^ 12 +
      c.outcome.index * 2 ^ 16 + flagValue c.fromSpare 20 + c.buffer.val * 2 ^ 24 + 2 ^ 31 := by
  have kind := c.kind.code_lt
  have outcome := c.outcome.code_lt
  have index := c.outcome.index_lt
  have flag := flagValue_le c.fromSpare 20
  have tag := place_zero_toNat (value := c.tag.toNat) (by omega)
  have low := or_place_toNat (or_place_toNat (low := 8) (value := c.kind.code) tag (by omega) (by omega))
    (low := 12) (value := c.outcome.code) (by omega) (by omega)
  have mid := or_placeFlag_toNat (low := 20) (flag := c.fromSpare)
    (or_place_toNat (low := 16) (value := c.outcome.index) low (by omega) (by omega)) (by omega) (by omega)
  exact or_placeFlag_toNat (flag := true)
    (or_place_toNat (low := 24) (value := c.buffer.val) mid (by omega) (by omega)) (by omega) (by omega)

theorem readBufState_getLsbD (s : State) (i : BufferIdx) :
    (readBufState s).getLsbD i.val = decide ((s.buf.line i).state = .locked) := by
  have bit (j : BufferIdx) : (lockedBit s j).getLsbD i.val =
      (decide ((s.buf.line j).state = .locked) && decide (i = j)) := by
    rw [lockedBit, placeFlag, flagBit_getLsbD _ (by omega)]
    simp [Fin.ext_iff, beq_eq_decide]
  simp only [readBufState, BitVec.getLsbD_or, bit]
  fin_cases i <;> simp

theorem readMntStatus_toNat (s : State) :
    (readMntStatus s).toNat = flagValue s.mnt.running.isSome 0 + (s.mnt.lastCommand.getD 0).toNat * 2 ^ 8 +
      s.mnt.lastResult.code * 2 ^ 16 + flagValue s.mnt.lastBurnSlot.isSome 23 +
      (s.mnt.lastBurnSlot.getD 0).val * 2 ^ 24 := by
  have result := s.mnt.lastResult.code_lt
  have running := flagValue_le s.mnt.running.isSome 0
  have burned := flagValue_le s.mnt.lastBurnSlot.isSome 23
  have flag := placeFlag_toNat s.mnt.running.isSome (i := 0) (by omega)
  have low := or_place_toNat (low := 8) (value := (s.mnt.lastCommand.getD 0).toNat) flag (by omega) (by omega)
  have mid := or_place_toNat (low := 16) (value := s.mnt.lastResult.code) low (by omega) (by omega)
  exact or_place_toNat (or_placeFlag_toNat mid (by omega) (by omega)) (by omega) (by omega)

theorem readMigStatus_toNat {s : State} {k : Nat} (restarts : shownRestarts s = k) (small : k < 4) :
    (readMigStatus s).toNat = s.mig.state.code + k * 2 ^ 4 +
      ((s.mig.last.map fun v => v.outcome.code).getD 0) * 2 ^ 8 := by
  have state := s.mig.state.code_lt
  have outcome := lastOutcome_lt s.mig.last
  rw [readMigStatus, restarts]
  exact or_place_toNat (or_place_toNat (place_zero_toNat (by omega)) (by omega) (by omega)) (by omega) (by omega)

/-- The entry of a migration that is COPYING or PARKED, with the engine's bank and row (R118). -/
theorem shown_of_moving {s : State} {b : Bank} {l : LogicalRow} {e : RemapEntry}
    (moving : s.mig.state = .parked b l ∨ ∃ v, s.mig.state = .copying b l v)
    (entry : (s.remap b).entry? l = some e) :
    shownRestarts s = e.restarts.val ∧
      readMigWhere s = place 0 b.val ||| place 3 l.val ||| entryWhere e := by
  obtain state | ⟨v, state⟩ := moving <;>
    simp [shownRestarts, readMigWhere, engineEntry?, state, entry]

theorem entryWhere_toNat (b : Bank) (l : LogicalRow) (c : Option SpareIdx) (x : SpareIdx) (n : LineNo)
    (k : Fin 4) (o : Origin) :
    (place 0 b.val ||| place 3 l.val ||| entryWhere ⟨l, .pending c x n k, o⟩).toNat =
      b.val + l.val * 2 ^ 3 + flagValue c.isSome 16 + (c.getD 0).val * 2 ^ 17 + x.val * 2 ^ 21 +
        n.val * 2 ^ 25 := by
  have current := flagValue_le c.isSome 16
  have low := or_place_toNat (low := 3) (value := l.val) (place_zero_toNat (value := b.val) (by omega))
    (by omega) (by omega)
  have flag := or_placeFlag_toNat (low := 16) (flag := c.isSome) low (by omega) (by omega)
  have mid := or_place_toNat (low := 17) (value := (c.getD 0).val) flag (by omega) (by omega)
  simp only [entryWhere, ← BitVec.or_assoc]
  exact or_place_toNat (or_place_toNat mid (by omega) (by omega)) (by omega) (by omega)

theorem readPtlStatus_toNat (s : State) :
    (readPtlStatus s).toNat = s.ptl.cursor.row.val + s.ptl.cursor.bank.val * 2 ^ 14 +
      s.ptl.cursor.line.val * 2 ^ 17 + flagValue (s.ptl.step != .none) 24 := by
  have low := or_place_toNat (low := 14) (value := s.ptl.cursor.bank.val)
    (place_zero_toNat (value := s.ptl.cursor.row.val) (by omega)) (by omega) (by omega)
  exact or_placeFlag_toNat (or_place_toNat low (by omega) (by omega)) (by omega) (by omega)

theorem readFrtLevel_toNat {s : State} (queue : s.frt.queue.length ≤ 32) :
    s.frt.recordCount ≤ 32 ∧
      (readFrtLevel s).toNat = s.frt.recordCount + s.frt.queue.length * 2 ^ 8 +
        flagValue (s.frt.recordCount == 32) 16 + (s.frt.queue.head?.getD 0).val * 2 ^ 24 := by
  have few : s.frt.recordCount ≤ 32 := List.countP_le_length.trans_eq s.frt.slots.length_toList
  have full := flagValue_le (s.frt.recordCount == 32) 16
  have low := or_place_toNat (low := 8) (value := s.frt.queue.length)
    (place_zero_toNat (value := s.frt.recordCount) (by omega)) (by omega) (by omega)
  exact ⟨few, or_place_toNat (or_placeFlag_toNat low (by omega) (by omega)) (by omega) (by omega)⟩

theorem reportWordA_toNat (r : Report) :
    (reportWordA r).toNat = r.bank.val + r.line.val * 2 ^ 4 + r.source.code * 2 ^ 12 +
      r.logical.val * 2 ^ 16 + 2 ^ 31 := by
  have reader := r.source.code_lt
  have low := or_place_toNat (low := 4) (value := r.line.val) (place_zero_toNat (value := r.bank.val) (by omega))
    (by omega) (by omega)
  have mid := or_place_toNat (low := 12) (value := r.source.code) low (by omega) (by omega)
  exact or_placeFlag_toNat (flag := true) (or_place_toNat mid (by omega) (by omega)) (by omega) (by omega)

theorem reportWordB_toNat (r : Report) : (reportWordB r).toNat = r.row.val + r.pass.toNat * 2 ^ 16 :=
  or_place_toNat (place_zero_toNat (by omega)) (by omega) (by omega)

theorem readUerLevel_toNat {s : State} (few : s.uer.reports.length ≤ 8) :
    (readUerLevel s).toNat = s.uer.reports.length + flagValue s.uer.overflow 8 :=
  or_placeFlag_toNat (place_zero_toNat (by omega)) (by omega) (by omega)

theorem or_last (p v m : Word) : p ||| v ||| m = p ||| m ||| v := by
  rw [BitVec.or_assoc, BitVec.or_comm v, ← BitVec.or_assoc]

theorem entryWord_active_toNat (l : LogicalRow) (x : SpareIdx) (o : Origin) :
    (entryWord ⟨l, .active x, o⟩).toNat =
      1 + flagValue (o == .persistent) 1 + 2 ^ 2 + x.val * 2 ^ 4 + 2 ^ 31 := by
  have persistent := flagValue_le (o == .persistent) 1
  have order : entryWord ⟨l, .active x, o⟩ = placeFlag 0 true ||| placeFlag 1 (o == .persistent) |||
      placeFlag 2 true ||| place 4 x.val ||| placeFlag 31 true := by
    rw [BitVec.or_comm (placeFlag 0 true)]
    exact (or_last _ _ _).trans (by simp only [BitVec.or_assoc])
  have valid : flagValue true 0 = 1 := rfl
  have low := or_placeFlag_toNat (low := 1) (flag := o == .persistent)
    (placeFlag_toNat true (i := 0) (by omega)) (by simp [valid]) (by omega)
  have mid := or_placeFlag_toNat (low := 2) (flag := true) low (by omega) (by omega)
  have active : flagValue true 2 = 4 := rfl
  rw [order]
  exact or_placeFlag_toNat (flag := true) (or_place_toNat mid (by omega) (by omega)) (by omega) (by omega)

theorem entryWord_pending_toNat (l : LogicalRow) (c : Option SpareIdx) (x : SpareIdx) (n : LineNo)
    (k : Fin 4) (o : Origin) :
    (entryWord ⟨l, .pending c x n k, o⟩).toNat =
      flagValue (o == .persistent) 1 + flagValue c.isSome 2 + (c.getD 0).val * 2 ^ 4 + x.val * 2 ^ 8 +
        n.val * 2 ^ 16 + k.val * 2 ^ 24 + 2 ^ 31 := by
  have persistent := flagValue_le (o == .persistent) 1
  have current := flagValue_le c.isSome 2
  have order : entryWord ⟨l, .pending c x n k, o⟩ = placeFlag 1 (o == .persistent) |||
      placeFlag 2 c.isSome ||| place 4 (c.getD 0).val ||| place 8 x.val ||| place 16 n.val |||
      place 24 k.val ||| placeFlag 31 true := by
    exact (or_last _ _ _).trans (by simp only [BitVec.or_assoc])
  have flags := or_placeFlag_toNat (low := 2) (flag := c.isSome)
    (placeFlag_toNat (o == .persistent) (i := 1) (by omega)) (by omega) (by omega)
  have low := or_place_toNat (low := 4) (value := (c.getD 0).val) flags (by omega) (by omega)
  have mid := or_place_toNat (low := 8) (value := x.val) low (by omega) (by omega)
  have high := or_place_toNat (low := 16) (value := n.val) mid (by omega) (by omega)
  rw [order]
  exact or_placeFlag_toNat (flag := true) (or_place_toNat high (by omega) (by omega)) (by omega) (by omega)

theorem slotWord_written_toNat (b : Bank) (l : LogicalRow) (x : SpareIdx) :
    (slotWord (.written b l x)).toNat = 1 + b.val * 2 ^ 4 + l.val * 2 ^ 8 + x.val * 2 ^ 24 := by
  have low := or_place_toNat (low := 4) (value := b.val) (place_zero_toNat (value := 1) (by omega))
    (by omega) (by omega)
  exact or_place_toNat (or_place_toNat low (by omega) (by omega)) (by omega) (by omega)

/-- Every slot of the store is BLANK, WRITTEN or BAD (R151). -/
theorem slots_counted (l : List StoreSlot) :
    l.countP StoreSlot.isBlank + l.countP StoreSlot.isWritten + l.countP StoreSlot.isBad = l.length := by
  induction l with
  | nil => rfl
  | cons v l ih =>
    cases v <;> simp [List.countP_cons, StoreSlot.isBlank, StoreSlot.isWritten, StoreSlot.isBad] <;> omega

/-! ### The registers of one field for each spare or bank -/

/-- Fields of `k` bits placed side by side: each is found again at its place. -/
theorem foldl_place (k : Nat) (f : Nat → Nat) (small : ∀ i, f i < 2 ^ k) (n : Nat) (fits : k * n ≤ 32) :
    ((List.range n).foldl (fun w i => w ||| place (k * i) (f i)) 0).toNat < 2 ^ (k * n) ∧
      ∀ i < n, ((List.range n).foldl (fun w i => w ||| place (k * i) (f i)) 0).toNat / 2 ^ (k * i) % 2 ^ k =
        f i := by
  induction n with
  | zero => simp
  | succ n ih =>
    have next : k * (n + 1) = k * n + k := by ring
    obtain ⟨below, found⟩ := ih (by omega)
    have room : f n * 2 ^ (k * n) < 2 ^ (k * (n + 1)) := by
      rw [next, pow_add, mul_comm (2 ^ (k * n))]
      exact Nat.mul_lt_mul_of_pos_right (small n) (by positivity)
    have fit : f n * 2 ^ (k * n) < 2 ^ 32 := room.trans_le (Nat.pow_le_pow_right (by omega) fits)
    have sum := or_place_toNat rfl below fit
    rw [List.range_succ, List.foldl_append, List.foldl_cons, List.foldl_nil, sum]
    constructor
    · have : (f n + 1) * 2 ^ (k * n) ≤ 2 ^ (k * (n + 1)) := by
        rw [next, pow_add, mul_comm (2 ^ (k * n))]
        exact Nat.mul_le_mul_right _ (small n)
      linarith
    · intro i hi
      obtain rfl | lower := Nat.eq_or_lt_of_le (Nat.le_of_lt_succ hi)
      · rw [Nat.add_mul_div_right _ _ (by positivity), Nat.div_eq_of_lt below, Nat.zero_add,
          Nat.mod_eq_of_lt (small i)]
      · have split : k * n = k * (n - i - 1) + k + k * i := by
          rw [← Nat.mul_succ, ← Nat.mul_add]
          congr 1
          omega
        have shifted : f n * 2 ^ (k * n) = f n * 2 ^ (k * (n - i - 1)) * 2 ^ k * 2 ^ (k * i) := by
          rw [split, pow_add, pow_add]
          ring
        rw [shifted, Nat.add_mul_div_right _ _ (by positivity), Nat.add_mul_mod_self_right, found i lower]

theorem foldl_place_finRange {n : Nat} (k : Nat) (f : Fin n → Nat) (small : ∀ i, f i < 2 ^ k)
    (fits : k * n ≤ 32) (i : Fin n) :
    ((List.finRange n).foldl (fun w i => w ||| place (k * i.val) (f i)) 0).toNat / 2 ^ (k * i.val) % 2 ^ k =
      f i := by
  let g : Nat → Nat := fun j => if h : j < n then f ⟨j, h⟩ else 0
  have same (j : Fin n) : g j.val = f j := dif_pos j.isLt
  have bound (j : Nat) : g j < 2 ^ k := by
    by_cases h : j < n
    · exact (same ⟨j, h⟩).trans_lt (small _)
    · simp [g, h]
  have range : List.range n = (List.finRange n).map Fin.val := (List.map_coe_finRange_eq_range).symm
  have found := (foldl_place k g bound n fits).2 i.val i.isLt
  rw [range, List.foldl_map] at found
  simpa only [same] using found

theorem readSpares_field (s : State) (i : SpareIdx) :
    (readSpares s).toNat / 4 ^ i.val % 4 = ((s.remap s.rmp.selectBank).spare i).code := by
  have four : (4 : Nat) ^ i.val = 2 ^ (2 * i.val) := by norm_num [pow_mul]
  rw [four]
  exact foldl_place_finRange 2 _ (fun i => SpareState.code_lt _) (by omega) i

/-- Two neighbouring fields of two bits are one of four. -/
theorem place_or_place {low x y : Nat} (hx : x < 4) (hy : y < 4) (fits : low + 4 ≤ 32) :
    place low x ||| place (low + 2) y = place low (x + y * 4) := by
  have power : 2 ^ (low + 4) ≤ 2 ^ 32 := Nat.pow_le_pow_right (by omega) fits
  have four : 2 ^ (low + 4) = 2 ^ low * 16 := pow_add 2 low 4
  have two : 2 ^ (low + 2) = 2 ^ low * 4 := pow_add 2 low 2
  have positive : 0 < 2 ^ low := by positivity
  refine BitVec.eq_of_toNat_eq ?_
  rw [or_place_toNat (place_toNat (by nlinarith)) (by nlinarith) (by nlinarith), place_toNat (by nlinarith), two]
  ring

theorem readBanks_field (s : State) (b : Bank) :
    (readBanks s).toNat / 16 ^ b.val % 16 = (s.bank b).condition.code + (s.bank b).phase.code * 4 := by
  have sixteen : (16 : Nat) ^ b.val = 2 ^ (4 * b.val) := by norm_num [pow_mul]
  have joined : readBanks s = (List.finRange 8).foldl
      (fun w b => w ||| place (4 * b.val) ((s.bank b).condition.code + (s.bank b).phase.code * 4)) 0 := by
    have step : (fun (w : Word) (b : Bank) => w ||| place (4 * b.val) (s.bank b).condition.code |||
        place (4 * b.val + 2) (s.bank b).phase.code) =
        fun w b => w ||| place (4 * b.val) ((s.bank b).condition.code + (s.bank b).phase.code * 4) := by
      funext w b
      rw [BitVec.or_assoc, place_or_place (Condition.code_lt _) (Phase.code_lt _) (by omega)]
    rw [readBanks, step]
    rfl
  rw [sixteen, joined]
  refine foldl_place_finRange 4 _ (fun b => ?_) (by omega) b
  have condition := (s.bank b).condition.code_lt
  have phase := (s.bank b).phase.code_lt
  omega

/-! ### The registers of the open window -/

/-- Settles O39: the word of each register as the sum of its fields. -/
theorem statusRegistersShowTheirBlocks : Obligations.StatusRegistersShowTheirBlocks := by
  intro s isOpen read bit
  have shown (o : BitVec 8) : readRegister s o = openRead s o := readRegister_of_open isOpen o
  have word {o : BitVec 8} {w : Word} {v : Nat} (h : openRead s o = w) (value : w.toNat = v) : read o = v := by
    show (readRegister s o).toNat = v
    rw [shown, h, value]
  have counted := slots_counted s.rps.slots.toList
  rw [s.rps.slots.length_toList] at counted
  have state {v : Nat} : (readState s).toNat = v → read 0x04 = v := word rfl
  have cplHead {v : Nat} : (readCplHead s).toNat = v → read 0x30 = v := word rfl
  have migStatus {v : Nat} : (readMigStatus s).toNat = v → read 0x50 = v := word rfl
  have migWhere {v : Nat} : (readMigWhere s).toNat = v → read 0x54 = v := word rfl
  have info {v : Nat} : (readRmpInfo s).toNat = v → read 0x84 = v := word rfl
  have rpsSlot {v : Nat} : (readRpsSlot s).toNat = v → read 0x94 = v := word rfl
  have rpsLevel {v : Nat} : (readRpsLevel s).toNat = v → read 0x98 = v := word rfl
  refine ⟨shown 0x00, state ?_, shown 0x10, shown 0x14, word (o := 0x28) rfl (readResultReg_toNat s),
    fun held cpl => word (o := 0x2C) rfl (readLevel_toNat held cpl), fun empty => cplHead ?_,
    fun c rest head => cplHead ?_, fun i => ?_, word (o := 0x4C) rfl (readMntStatus_toNat s),
    fun rest => ⟨migStatus ?_, migWhere ?_⟩, fun v rest => ⟨migStatus ?_, migWhere ?_⟩,
    fun b l c x n k o moving entry => ?_, word (o := 0x58) rfl (readPtlStatus_toNat s),
    fun count counted queue => ?_, fun empty => ?_, fun r rest head => ?_,
    fun few => word (o := 0x7C) rfl (readUerLevel_toNat few), fun none => info ?_,
    fun l x o entry => info ?_, fun l c x n k o entry => info ?_, fun i => ?_, fun b => ?_,
    fun i selected => ?_, fun high => rpsSlot ?_, _, _, _, rfl, rfl, rfl, counted, rpsLevel ?_⟩
  · simp [readState_toNat, arrayInit_of_open isOpen]
  · simp [readCplHead, empty]
  · simp only [readCplHead, head, List.head?_cons, Option.map_some, Option.getD_some]
    exact completionWord_toNat c
  · rw [shown]
    exact readBufState_getLsbD s i
  · simp [readMigStatus, shownRestarts, rest, EngineState.code, place]
  · simp [readMigWhere, rest]
  · have restarts : shownRestarts s = v.restarts.val := by simp [shownRestarts, rest]
    simp [readMigStatus_toNat restarts v.restarts.isLt, rest, EngineState.code]
  · simp only [readMigWhere, rest, Option.map_some, Option.getD_some]
    exact or_place_toNat (place_zero_toNat (by omega)) (by omega) (by omega)
  · obtain ⟨restarts, place⟩ := shown_of_moving moving entry
    exact ⟨word (o := 0x50) rfl (readMigStatus_toNat restarts k.isLt),
      word (o := 0x54) place (entryWhere_toNat b l c x n k o)⟩
  · obtain ⟨few, value⟩ := readFrtLevel_toNat queue
    subst counted
    exact ⟨few, word (o := 0x6C) rfl value⟩
  · exact ⟨word (o := 0x70) (w := 0) (by simp [openRead, empty]) rfl,
      word (o := 0x74) (w := 0) (by simp [openRead, empty]) rfl⟩
  · refine ⟨word (o := 0x70) ?_ (reportWordA_toNat r), word (o := 0x74) ?_ (reportWordB_toNat r)⟩
    all_goals simp [openRead, head]
  · simp [readRmpInfo, none]
  · simp only [readRmpInfo, entry, Option.map_some, Option.getD_some]
    exact entryWord_active_toNat l x o
  · simp only [readRmpInfo, entry, Option.map_some, Option.getD_some]
    exact entryWord_pending_toNat l c x n k o
  · exact (congrArg (fun w : Word => w.toNat / 4 ^ i.val % 4) (shown 0x88)).trans (readSpares_field s i)
  · exact (congrArg (fun w : Word => w.toNat / 16 ^ b.val % 16) (shown 0x8C)).trans (readBanks_field s b)
  · have slot : openRead s 0x94 = slotWord (s.rps.slot i) := by
      show readRpsSlot s = _
      have small : s.rps.select.val < 48 := by omega
      have same : (⟨s.rps.select.val, small⟩ : Fin 48) = i := Fin.ext selected
      rw [readRpsSlot, dif_pos small, same]
    refine ⟨fun blank => word (slot.trans (congrArg slotWord blank)) rfl,
      fun bad => word (slot.trans (congrArg slotWord bad)) rfl,
      fun b l x written => word (slot.trans (congrArg slotWord written)) (slotWord_written_toNat b l x)⟩
  · rw [readRpsSlot, dif_neg (by omega)]
    rfl
  · have low := or_place_toNat (low := 8) (value := s.rps.slots.toList.countP StoreSlot.isWritten)
      (place_zero_toNat (value := s.rps.slots.toList.countP StoreSlot.isBlank) (by omega)) (by omega) (by omega)
    exact or_place_toNat (value := s.rps.slots.toList.countP StoreSlot.isBad) low (by omega) (by omega)

end Sys2Proof.Machine
end

section
/-! Maintenance commands: refusals, CLEAR BANK, BURN ROW, DROP RECORD, HOLD and RELEASE (10.1 to 10.4):
O41, O42, O44, O45. -/

namespace Sys2Proof.Machine

/-! ### A command that completes at its own write -/

/-- The state after command `c` completed with `r` at its own write, on a state with its effect (R172). -/
def completedAt (c : MntCommand) (r : MntResult) (s : State) : State := completeCommand r (beginCommand c s)

@[simp] theorem completedAt_frame (c : MntCommand) (r : MntResult) (s : State) :
    (completedAt c r s).powered = s.powered ∧ (completedAt c r s).rstAsserted = s.rstAsserted ∧
    (completedAt c r s).hpt = s.hpt ∧ (completedAt c r s).req = s.req ∧ (completedAt c r s).buf = s.buf ∧
    (completedAt c r s).cpl = s.cpl ∧ (completedAt c r s).banks = s.banks ∧
    (completedAt c r s).refreshTimer = s.refreshTimer ∧ (completedAt c r s).rmp = s.rmp ∧
    (completedAt c r s).mig = s.mig ∧ (completedAt c r s).frt = s.frt ∧ (completedAt c r s).ptl = s.ptl ∧
    (completedAt c r s).rps = s.rps ∧ (completedAt c r s).uer = s.uer ∧
    (completedAt c r s).array = s.array ∧ (completedAt c r s).readData = s.readData ∧
    (completedAt c r s).lineReads = s.lineReads ∧ (completedAt c r s).pending = s.pending := by
  simp [completedAt]

theorem completedAt_mnt {s : State} (idle : s.mnt.running = none) (c : MntCommand) (r : MntResult) :
    (completedAt c r s).mnt = mntCompleted c r s := by simp [completedAt, mntCompleted, ← idle]

theorem completedAt_mnt_of {s t : State} (mnt : t.mnt = s.mnt) (idle : s.mnt.running = none) (c : MntCommand)
    (r : MntResult) : (completedAt c r t).mnt = mntCompleted c r s := by
  rw [completedAt_mnt (mnt ▸ idle), mntCompleted, mntCompleted, mnt]

theorem completedAt_eq {s t : State} (mnt : t.mnt = s.mnt) (idle : s.mnt.running = none) (c : MntCommand)
    (r : MntResult) : completedAt c r t = (t.setMnt (mntCompleted c r s)).latch .maintDone := by
  rw [← completedAt_mnt_of mnt idle]
  rfl

theorem completedAt_latchesOnly (c : MntCommand) (r : MntResult) (s : State) :
    latchesOnly .maintDone s (completedAt c r s) := rfl

theorem completedAt_latchesOnly_of {s t : State} (evt : t.evt = s.evt) (c : MntCommand) (r : MntResult) :
    latchesOnly .maintDone s (completedAt c r t) := by
  have latched := completedAt_latchesOnly c r t
  rwa [latchesOnly, evt] at latched

@[simp] theorem completedAt_bank (c : MntCommand) (r : MntResult) (s : State) (b : Bank) :
    (completedAt c r s).bank b = s.bank b := State.bank_congr (by simp) b

@[simp] theorem completedAt_remap (c : MntCommand) (r : MntResult) (s : State) (b : Bank) :
    (completedAt c r s).remap b = s.remap b := State.remap_congr (by simp) b

/-- A proper command that the unit takes carries out its body (R170). -/
theorem exec_write_of_takesCommand {c : MntCommand} (proper : c.proper) {s : State} (takes : takesCommand s) :
    exec c.write s = .next (commandBody c s.mnt.arg (beginCommand c s)) := by
  rw [next_of_after rfl, after_write proper, takeCommand_of_takesCommand takes]

/-! ### Refusals (Table 10-2) -/

theorem refusedWith_of_body {c : MntCommand} (proper : c.proper) {r : MntResult} {s : State}
    (takes : takesCommand s)
    (body : commandBody c s.mnt.arg (beginCommand c s) = completedAt c r s) : refusedWith c r s :=
  ⟨completedAt c r s, (exec_write_of_takesCommand proper takes).trans (by rw [body]),
    by simp [keepsAllBut_iff], completedAt_mnt takes.2 c r, completedAt_latchesOnly c r s⟩

/-- The window is open in READY and in retention alone (R165). -/
theorem inRetention_of_open {s : State} (isOpen : s.windowOpen = true) :
    inRetention s.hpt.state = decide (s.hpt.state ≠ .ready) := by
  simp only [State.windowOpen, Bool.and_eq_true] at isOpen
  revert isOpen
  cases s.hpt.state <;> simp [inRetention]

theorem logicalRow?_of_val {l : LogicalRow} {f : Fin 16384} (h : l.val = f.val) : logicalRow? f = some l := by
  rw [logicalRow?_of_lt (h ▸ l.isLt)]
  exact congrArg some (Fin.ext h.symm)

theorem RemapEntry.exists_active {e : RemapEntry} (calm : e.isPending = false) :
    ∃ c, e.state = .active c := by
  rcases e with ⟨row, c | ⟨c, t, u, r⟩, o⟩
  · exact ⟨c, rfl⟩
  · cases calm

theorem pending?_isSome_iff {m : BankRemap} :
    m.pending?.isSome = true ↔ ∃ e ∈ m.entries, e.isPending = true := by
  rw [BankRemap.pending?, List.find?_isSome]

theorem rowPending_eq_false_iff {m : BankRemap} {l : LogicalRow} :
    rowPending m l = false ↔ ∀ e, m.entry? l = some e → e.isPending = false := by
  unfold rowPending
  cases m.entry? l <;> simp

/-- Settles O41: the checks of each command in order, each on the state as it stands. -/
theorem refusedCommandChangesNothingElse : Obligations.RefusedCommandChangesNothingElse := by
  intro s takes b m row pendingIn st
  have away (h : st ≠ .ready) : inRetention s.hpt.state = true := by simpa [inRetention_of_open takes.1] using h
  have active (h : st = .ready) : inRetention s.hpt.state = false := by
    simpa [inRetention_of_open takes.1] using h
  have formatted (h : (s.bank b).condition = .formatted) : (s.bank s.mnt.arg.bank).condition = .formatted := h
  have entry {l : LogicalRow} {v : Option RemapEntry} (h : m.entry? l = v) :
      (s.remap s.mnt.arg.bank).entry? l = v := h
  have refused {c : MntCommand} {r : MntResult} (proper : c.proper)
      (body : commandBody c s.mnt.arg (beginCommand c s) = completedAt c r s) : refusedWith c r s :=
    refusedWith_of_body proper takes body
  refine ⟨fun code unnamed => refused (c := .unknown code) unnamed rfl,
    fun h => refused (c := .clearBank) trivial ?_, fun h pending => refused (c := .clearBank) trivial ?_,
    fun h => refused (c := .migrateRow) trivial ?_, fun h high => refused (c := .migrateRow) trivial ?_,
    fun h low engine => refused (c := .migrateRow) trivial ?_,
    fun l e h named engine found pending => refused (c := .migrateRow) trivial ?_,
    fun l h named engine calm none => refused (c := .migrateRow) trivial ?_,
    fun engine => refused (c := .abortMigration) trivial ?_, fun high => refused (c := .burnRow) trivial ?_,
    fun l named found => refused (c := .burnRow) trivial ?_,
    fun l e named found pending => refused (c := .burnRow) trivial ?_,
    fun l e named found calm persistent => refused (c := .burnRow) trivial ?_,
    fun l e named found calm volatile full => refused (c := .burnRow) trivial ?_,
    fun h => refused (c := .enterRetention) trivial ?_, fun h => refused (c := .exitRetention) trivial ?_,
    fun empty => refused (c := .dropRecord) trivial ?_,
    fun r found migrating => refused (c := .dropRecord) trivial ?_⟩
  · simp [commandBody, clearBankBody, away h, completedAt]
  · have found : (s.remap s.mnt.arg.bank).pending?.isSome = true := pending?_isSome_iff.mpr pending
    simp [commandBody, clearBankBody, active h, found, completedAt]
  · have other : (s.bank s.mnt.arg.bank).condition ≠ .formatted := h
    simp [commandBody, migrateRowBody, other, completedAt]
  · simp [commandBody, migrateRowBody, formatted h, logicalRow?_of_ge high, completedAt]
  · simp [commandBody, migrateRowBody, formatted h, logicalRow?_of_lt low, engine, completedAt]
  · have busy : rowPending (s.remap s.mnt.arg.bank) l = true := rowPending_iff.mpr ⟨e, found, pending⟩
    simp [commandBody, migrateRowBody, formatted h, logicalRow?_of_val named, engine, busy, completedAt]
  · have rest : rowPending (s.remap s.mnt.arg.bank) l = false := rowPending_eq_false_iff.mpr calm
    have spent : (s.remap s.mnt.arg.bank).lowestFree? = Option.none := BankRemap.lowestFree?_eq_none_iff.mpr none
    simp [commandBody, migrateRowBody, formatted h, logicalRow?_of_val named, engine, rest, spent, completedAt]
  · simp [commandBody, abortMigrationBody, engine, completedAt]
  · simp [commandBody, burnRowBody, logicalRow?_of_ge high, completedAt]
  · simp [commandBody, burnRowBody, logicalRow?_of_val named, entry found, completedAt]
  · obtain ⟨c, t, u, k, state⟩ := RemapEntry.isPending_iff.mp pending
    simp [commandBody, burnRowBody, logicalRow?_of_val named, entry found, state, completedAt]
  · obtain ⟨c, state⟩ := RemapEntry.exists_active calm
    simp [commandBody, burnRowBody, logicalRow?_of_val named, entry found, state, persistent, completedAt]
  · obtain ⟨c, state⟩ := RemapEntry.exists_active calm
    have spent : s.rps.lowestBlank? = Option.none := RepairStore.lowestBlank?_eq_none_iff.mpr full
    simp [commandBody, burnRowBody, logicalRow?_of_val named, entry found, state, volatile, beginBurn, spent,
      completedAt]
  · simp [commandBody, enterRetentionBody, away h, completedAt]
  · simp [commandBody, exitRetentionBody, active h, completedAt]
  · simp [commandBody, dropRecordBody, empty, completedAt]
  · simp [commandBody, dropRecordBody, found, migrating, completedAt]

/-! ### CLEAR BANK accepted (R175) -/

theorem pending?_of_calm {m : BankRemap} (calm : ∀ e ∈ m.entries, e.isPending = false) :
    m.pending? = none := by
  simpa [BankRemap.pending?] using calm

theorem exec_clearBank_accepted {s : State} (takes : takesCommand s) (ready : s.hpt.state = .ready)
    (calm : (s.remap s.mnt.arg.bank).pending? = none) :
    exec .clearBank s = .next (beginClear s.mnt.arg.bank (beginCommand .clearBank s)) := by
  have body := exec_write_of_takesCommand (c := .clearBank) trivial takes
  simpa [MntCommand.write, commandBody, clearBankBody, ready, inRetention, calm] using body

theorem withdrawStepOf_ptl_eq (b : Bank) (s : State) : (withdrawStepOf b s).ptl =
    if s.ptl.step.waitsAt? = some b then { s.ptl with step := .none } else s.ptl := by
  unfold withdrawStepOf
  cases step : s.ptl.step with
  | waiting p =>
    by_cases here : p.bank = b <;> simp [here, PatrolStep.waitsAt?]
  | none => simp [PatrolStep.waitsAt?]
  | running p m => simp [PatrolStep.waitsAt?]

theorem beginClear_frt (b : Bank) (s : State) : (beginClear b s).frt = s.frt.clearBank b := by simp [beginClear]

theorem FaultTable.clearBank_window (f : FaultTable) (b : Bank) :
    (f.clearBank b).select = f.select ∧ (f.clearBank b).holdB = f.holdB ∧ (f.clearBank b).holdC = f.holdC := by
  simp [FaultTable.clearBank, FaultTable.keep]

/-- Settles O42. -/
theorem clearBankBegins : Obligations.ClearBankBegins := by
  intro s takes ready calm b
  have waits : (beginCommand .clearBank s).ptl.step.waitsAt? = s.ptl.step.waitsAt? := by simp
  have bank := beginClear_section b (beginCommand .clearBank s) b
  rw [if_pos rfl, withdrawStepOf_section, waits] at bank
  have frt : (beginClear b (beginCommand .clearBank s)).frt = s.frt.clearBank b := by simp [beginClear_frt]
  have ptl : (beginClear b (beginCommand .clearBank s)).ptl = _ :=
    (beginClear_ptl ..).trans (withdrawStepOf_ptl_eq b (beginCommand .clearBank s))
  rw [waits] at ptl
  obtain ⟨select, holdB, holdC⟩ := s.frt.clearBank_window b
  refine ⟨_, exec_clearBank_accepted takes ready (pending?_of_calm calm), ?_, fun i => ?_, ?_, ?_, ?_, ?_,
    fun p waiting here => ?_, fun elsewhere => ?_, fun c other => ?_, by simp [keepsAllBut_iff]⟩
  · rw [beginClear_mnt, beginCommand_mnt]
    rfl
  · rw [frt]
    exact s.frt.slot_keep _ i
  · exact congrArg FaultTable.queue frt
  · rw [frt, select]
  · rw [frt, holdB]
  · rw [frt, holdC]
  · have withdrawn : s.ptl.step.waitsAt? = some b := PatrolStep.waitsAt?_eq_some_iff.mpr ⟨p, waiting, here⟩
    exact ⟨ptl.trans (if_pos withdrawn), bank.trans (by simp [withdrawn])⟩
  · have kept : s.ptl.step.waitsAt? ≠ some b := fun h =>
      (PatrolStep.waitsAt?_eq_some_iff.mp h).elim fun p h => elsewhere p h.1 h.2
    exact ⟨ptl.trans (if_neg kept), bank.trans (by simp [kept])⟩
  · rw [beginClear_section, if_neg other, beginCommand_bank]

/-! ### BURN ROW accepted, DROP RECORD (R132, R153, R154) -/

theorem RepairStore.slot_beginAttempt (p : RepairStore) (u : Burn) (j : Fin 48) :
    (p.beginAttempt u).slot j = if j = u.slot then .bad else p.slot j := p.slot_setSlot u.slot j .bad

/-- Settles O44. -/
theorem burnRowBeginsAndDropRecordRemoves : Obligations.BurnRowBeginsAndDropRecordRemoves := by
  refine ⟨fun s l i j takes named entry blank below => ?_, fun s r takes record kept => ?_⟩
  · have body := exec_write_of_takesCommand (c := .burnRow) trivial takes
    have lowest : s.rps.lowestBlank? = some j := RepairStore.lowestBlank?_eq_some_iff.mpr ⟨blank, below⟩
    have begun : burnRowBody s.mnt.arg (beginCommand .burnRow s) = (beginCommand .burnRow s).setRps
        (s.rps.beginAttempt ⟨s.mnt.arg.bank, l, i, 1, j⟩) := by
      simp [burnRowBody, logicalRow?_of_val named, entry, beginBurn, lowest]
    rw [commandBody, begun] at body
    refine ⟨_, body, rfl, ?_, rfl, rfl, fun k other => ?_, by simp [keepsAllBut_iff]⟩
    · exact (RepairStore.slot_beginAttempt ..).trans (if_pos rfl)
    · exact (RepairStore.slot_beginAttempt ..).trans (if_neg other)
  · have body := exec_write_of_takesCommand (c := .dropRecord) trivial takes
    have dropped : dropRecordBody s.mnt.arg (beginCommand .dropRecord s) =
        completedAt .dropRecord .done (s.setFrt (s.frt.removeSlot s.mnt.arg.index)) := by
      simp [dropRecordBody, record, kept]
      rfl
    rw [commandBody, dropped] at body
    refine ⟨_, body, completedAt_mnt (s := s.setFrt _) takes.2 .dropRecord .done, rfl, ?_, fun i other => ?_,
      rfl, rfl, rfl, rfl, by simp [keepsAllBut_iff]⟩
    · exact s.frt.slot_setSlot_same _ none
    · exact s.frt.slot_setSlot_ne none other

/-! ### HOLD and RELEASE (R178, R179) -/

theorem park_setHold (v : Bool) (s : State) : park (setHold v s) = setHold v (park s) := by
  simp only [park, setHold_frame]; split <;> rfl

theorem unpark_setHold (v : Bool) (s : State) : unpark (setHold v s) = setHold v (unpark s) := by
  simp only [unpark, setHold_frame]; split <;> rfl

theorem withdrawStep_setHold (v : Bool) (s : State) : withdrawStep (setHold v s) = setHold v (withdrawStep s) := by
  simp only [withdrawStep, setHold_frame]; split <;> rfl

/-- HOLD as a completion on the state with its effect (R178). -/
theorem holdBody_eq (s : State) : holdBody s.mnt.arg (beginCommand .hold s) = completedAt .hold .done
    (if s.mnt.hold then s else if s.hpt.state = .ready then setHold true (withdrawStep (park s))
      else setHold true s) := by
  simp only [holdBody, completedAt, beginCommand_hold, beginCommand_frame, setHold_beginCommand,
    park_beginCommand, withdrawStep_beginCommand, park_setHold, withdrawStep_setHold]
  split
  · rfl
  · split <;> rfl

/-- RELEASE as a completion on the state with its effect (R179). -/
theorem releaseBody_eq (s : State) : releaseBody s.mnt.arg (beginCommand .release s) =
    completedAt .release .done
      (if s.mnt.hold then if s.hpt.state = .ready then setHold false (unpark s) else setHold false s else s) := by
  simp only [releaseBody, completedAt, beginCommand_hold, beginCommand_frame, setHold_beginCommand,
    unpark_beginCommand, unpark_setHold]
  split
  · split <;> rfl
  · rfl

/-- A command completed on a state whose hold was just written. -/
theorem completedAt_setHold_mnt {s t : State} (idle : s.mnt.running = none) (mnt : t.mnt = s.mnt) (v : Bool)
    (c : MntCommand) (r : MntResult) :
    (completedAt c r (setHold v t)).mnt = { mntCompleted c r s with hold := v } := by
  rw [completedAt_mnt (by simp [mnt, idle]), mntCompleted, mntCompleted, setHold_mnt, mnt]

theorem withdrawStep_of_not_waiting {s : State} (h : ∀ p, s.ptl.step ≠ .waiting p) : withdrawStep s = s := by
  unfold withdrawStep
  split
  · rename_i p waiting
    exact absurd waiting (h p)
  · rfl
  · rfl

theorem withdrawStep_of_waiting {s : State} {p : Position} (h : s.ptl.step = .waiting p) :
    withdrawStep s = withdrawStepAt p s := by simp only [withdrawStep, h]

theorem withdrawCopy_bank_ne (b : Bank) (s : State) : keepsOtherBanks b s (withdrawCopy b s) := fun _ other =>
  s.bank_setBank_ne _ other

/-- What parking, unparking and the withdrawal of a step do (R23, R111, R113, R146). -/
theorem parking (s : State) (b : Bank) (l : LogicalRow) :
    (s.mig.state = .copying b l .absent → (park s).mig.state = .parked b l ∧ (park s).banks = s.banks) ∧
    (s.mig.state = .copying b l .waiting → (park s).mig.state = .parked b l ∧
      (park s).bank b = { s.bank b with migrationSlot := false, migrationAge := 0 } ∧
      keepsOtherBanks b s (park s)) ∧
    (∀ p a, s.mig.state = .copying b l (.running p a) →
      (park s).mig.state = .copying b l (.running true a) ∧ (park s).banks = s.banks ∧
      (unpark s).mig.state = .copying b l (.running false a)) ∧
    (s.mig.state = .parked b l → park s = s ∧ (unpark s).mig.state = .copying b l .absent) ∧
    (s.mig.state = .idle → park s = s ∧ unpark s = s) := by
  refine ⟨fun engine => ?_, fun engine => ?_, fun p a engine => ?_, fun engine => ?_, fun engine => ?_⟩
  · simp [park, engine]
  · have parked : park s = setEngine (.parked b l) (withdrawCopy b s) := by simp [park, engine]
    rw [parked]
    exact ⟨rfl, s.bank_setBank_same b _, withdrawCopy_bank_ne b s⟩
  · simp [park, unpark, engine]
  · simp [park, unpark, engine]
  · simp [park, unpark, engine]

theorem park_last (s : State) : (park s).mig.last = s.mig.last := by unfold park; split <;> simp

theorem unpark_last (s : State) : (unpark s).mig.last = s.mig.last := by unfold unpark; split <;> simp

/-- Settles O45. -/
theorem holdReleaseAndParking : Obligations.HoldReleaseAndParking := by
  refine ⟨fun s takes => ?_, fun s b l => ?_⟩
  · have idle := takes.2
    have hold := exec_write_of_takesCommand (c := .hold) trivial takes
    have release := exec_write_of_takesCommand (c := .release) trivial takes
    rw [commandBody, holdBody_eq] at hold
    rw [commandBody, releaseBody_eq] at release
    refine ⟨fun set => refusedWith_of_body (c := .hold) trivial takes ?_, fun clear away => ?_,
      fun clear ready => ?_, fun clear => refusedWith_of_body (c := .release) trivial takes ?_,
      fun set away => ?_, fun set ready => ?_⟩
    · rw [commandBody, holdBody_eq, if_pos set]
    · rw [clear, if_neg (by simp), if_neg away] at hold
      exact ⟨_, hold, completedAt_setHold_mnt idle rfl .., completedAt_latchesOnly_of (by simp) ..,
        by simp [keepsAllBut_iff]⟩
    · rw [clear, if_neg (by simp), if_pos ready] at hold
      exact ⟨_, hold, completedAt_setHold_mnt idle (by simp) .., completedAt_latchesOnly_of (by simp) ..,
        by simp, by simp, by simp, by simp [keepsAllBut_iff]⟩
    · rw [commandBody, releaseBody_eq, clear, if_neg (by simp)]
    · rw [set, if_pos rfl, if_neg away] at release
      exact ⟨_, release, completedAt_setHold_mnt idle rfl .., completedAt_latchesOnly_of (by simp) ..,
        by simp [keepsAllBut_iff]⟩
    · rw [set, if_pos rfl, if_pos ready] at release
      exact ⟨_, release, completedAt_setHold_mnt idle (by simp) .., completedAt_latchesOnly_of (by simp) ..,
        by simp, by simp [keepsAllBut_iff]⟩
  · obtain ⟨absent, waiting, running, parked, rest⟩ := parking s b l
    refine ⟨absent, waiting, running, parked, rest, ⟨park_last s, unpark_last s⟩, by simp [keepsAllBut_iff],
      by simp [keepsAllBut_iff], fun p step => ?_, withdrawStep_of_not_waiting, by simp [keepsAllBut_iff]⟩
    rw [withdrawStep_of_waiting step]
    exact ⟨rfl, withdrawStepAt_bank p s, withdrawStepAt_bank_ne p s⟩

end Sys2Proof.Machine
end

section
/-! The migration's start, its steps and its ends (Chapter 6): O19, O30, O43. -/

namespace Sys2Proof.Machine

/-! ### The migration's record (R100, R130) -/

theorem FaultTable.slotOf?_of_only {f : FaultTable} {b : Bank} {p : PhysRow} {i : Fin 32} {r : FaultRecord}
    (slot : f.slot i = some r) (bank : r.bank = b) (row : r.row = p)
    (only : ∀ (j : Fin 32) (q : FaultRecord), f.slot j = some q → q.bank = b → q.row = p → j = i) :
    f.slotOf? b p = some i := by
  rcases found : f.slotOf? b p with - | j
  · exact absurd ⟨bank, row⟩ (FaultTable.slotOf?_eq_none_iff.mp found i r slot)
  · obtain ⟨q, at_j, bank', row'⟩ := FaultTable.slot_of_slotOf? found
    rw [only j q at_j bank' row']

/-- FRT's part at the ends of a migration, with its one MIGRATING record (R109, R116, R132). -/
theorem recordEnds {f : FaultTable} {i : Fin 32} {r : FaultRecord} (slot : f.slot i = some r)
    (found : f.migratingSlot? = some i) :
    (f.atCommit.slot i = none ∧ f.atCommit.queue = f.queue.filter (fun j => j != i) ∧
      keepsOtherSlots i f f.atCommit) ∧
    (f.atFailure.slot i = some { r with state := .stuck } ∧ f.atFailure.queue = f.queue ∧
      keepsOtherSlots i f f.atFailure) ∧
    (f.atAbort.slot i = some { r with state := .candidate } ∧ f.atAbort.queue = f.queue ++ [i] ∧
      keepsOtherSlots i f f.atAbort) := by
  have released (v : RecordState) : f.release v = f.setSlot i (some { r with state := v }) := by
    simp [FaultTable.release, found, slot]
  have commit : f.atCommit = f.removeSlot i := by simp [FaultTable.atCommit, found]
  have abort : f.atAbort = { f.setSlot i (some { r with state := .candidate }) with queue := f.queue ++ [i] } := by
    simp [FaultTable.atAbort, found, released]
  rw [commit, abort, FaultTable.atFailure, released]
  exact ⟨⟨f.slot_setSlot_same i none, rfl, f.keepsOtherSlots_setSlot i none⟩,
    ⟨f.slot_setSlot_same i _, rfl, f.keepsOtherSlots_setSlot i _⟩,
    ⟨f.slot_setSlot_same i _, rfl, f.keepsOtherSlots_setSlot i _⟩⟩

theorem recordEnds_none {f : FaultTable}
    (none : ∀ (i : Fin 32) (r : FaultRecord), f.slot i = some r → r.state ≠ .migrating) :
    f.atCommit = f ∧ f.atFailure = f ∧ f.atAbort = f := by
  have found := FaultTable.migratingSlot?_eq_none_iff.mpr none
  simp [FaultTable.atCommit, FaultTable.atFailure, FaultTable.release, FaultTable.atAbort, found]

theorem recordTaken {f : FaultTable} {b : Bank} {p : PhysRow} {i : Fin 32} {r : FaultRecord}
    (slot : f.slot i = some r) (found : f.slotOf? b p = some i) :
    (f.take b p).slot i = some { r with state := .migrating } ∧
    (f.take b p).queue = f.queue.filter (fun j => j != i) ∧ keepsOtherSlots i f (f.take b p) := by
  have taken : f.take b p = (f.setSlot i (some { r with state := .migrating })).leave i := by
    simp [FaultTable.take, found, slot]
  rw [taken]
  exact ⟨f.slot_setSlot_same i _, rfl, f.keepsOtherSlots_setSlot i _⟩

theorem recordTaken_none {f : FaultTable} {b : Bank} {p : PhysRow}
    (none : ∀ (i : Fin 32) (r : FaultRecord), f.slot i = some r → ¬(r.bank = b ∧ r.row = p)) :
    f.take b p = f := by
  have found := FaultTable.slotOf?_eq_none_iff.mpr none
  simp [FaultTable.take, found]

/-! ### What a change of one bank's table keeps -/

/-- A bank's table exchanged for one with the same entries outside row `l`. -/
theorem keepsOtherRows_of_tables {s t : State} {b : Bank} {l : LogicalRow} {m : BankRemap}
    {new : Option RemapEntry} (tables : ∀ x, t.remap x = if x = b then m else s.remap x)
    (entry : ∀ k, m.entry? k = if k = l then new else (s.remap b).entry? k)
    (select : t.rmp.selectBank = s.rmp.selectBank ∧ t.rmp.selectRow = s.rmp.selectRow) :
    keepsOtherRows b l s t := by
  refine ⟨fun k other => ?_, fun c other => by rw [tables, if_neg other], select⟩
  rw [tables, if_pos rfl, entry, if_neg other]

theorem State.select_setRemap (s : State) (b : Bank) (m : BankRemap) :
    (s.setRemap b m).rmp.selectBank = s.rmp.selectBank ∧
      (s.setRemap b m).rmp.selectRow = s.rmp.selectRow := ⟨rfl, rfl⟩

/-- SPARE_EXHAUSTED is latched exactly if no spare of the bank is FREE then (R110). -/
theorem noteExhausted_latches {b : Bank} {s t u : State} (note : t = noteExhausted b u) (evt : u.evt = s.evt) :
    (noFree (t.remap b) → latchesOnly .spareExhausted s t) ∧ (¬noFree (t.remap b) → t.evt = s.evt) := by
  have same : t.remap b = u.remap b := by rw [note, noteExhausted_remap]
  rw [same]
  refine ⟨fun none => ?_, fun some => ?_⟩
  · rw [note, noteExhausted, if_pos (BankRemap.freeCount_eq_zero_iff.mpr none), latchesOnly, ← evt]
    rfl
  · rw [note, noteExhausted, if_neg fun zero => some (BankRemap.freeCount_eq_zero_iff.mp zero), evt]

/-! ### The entry of the migration in progress -/

section Migration

variable {s : State} {b : Bank} {l : LogicalRow} {c : Option SpareIdx} {x : SpareIdx} {m : LineNo} {k : Fin 4}
  {o : Origin} (inv : RemapInv s) (entry : ⟨l, .pending c x m k, o⟩ ∈ (s.remap b).entries)
include inv entry

theorem pending?_of_inv : (s.remap b).pending? = some ⟨l, .pending c x m k, o⟩ := inv.pending?_eq entry rfl

theorem entry?_of_inv : (s.remap b).entry? l = some ⟨l, .pending c x m k, o⟩ :=
  BankRemap.entry?_of_mem (inv.banks b).rows entry

/-- The revert of the PENDING entry, its target left in state `v` (R93). -/
theorem revertedTable {t : State} (v : SpareState)
    (tables : ∀ y, t.remap y = if y = b then (s.remap b).revert ⟨l, .pending c x m k, o⟩ v else s.remap y)
    (select : t.rmp.selectBank = s.rmp.selectBank ∧ t.rmp.selectRow = s.rmp.selectRow) :
    (∀ i, c = some i → (t.remap b).entry? l = some ⟨l, .active i, o⟩) ∧
      (c = none → (t.remap b).entry? l = none) ∧ (t.remap b).spare x = v ∧
      (∀ i, i ≠ x → (t.remap b).spare i = (s.remap b).spare i) ∧ keepsOtherRows b l s t := by
  have row := BankRemap.entry?_revert (e := ⟨l, .pending c x m k, o⟩) (entry?_of_inv inv entry) rfl v
  have table : t.remap b = (s.remap b).revert ⟨l, .pending c x m k, o⟩ v := (tables b).trans (if_pos rfl)
  have spare := BankRemap.spare_revert (m := s.remap b) (e := ⟨l, .pending c x m k, o⟩) rfl v
  refine ⟨fun i current => ?_, fun none => ?_, ?_, fun i other => ?_,
    keepsOtherRows_of_tables tables row select⟩
  · rw [table, row, if_pos rfl, current]
    rfl
  · rw [table, row, if_pos rfl, none]
    rfl
  · rw [table, spare, if_pos rfl]
  · rw [table, spare, if_neg other]

/-- What MIG does with a result while no abort waits (R106 to R109). -/
theorem copyEnds_of_running {park : Bool} (running : s.mig.state = .copying b l (.running park false))
    (n : LineNo) (verified : Bool) : copyEnds n verified s =
      if verified then copied park b l ⟨l, .pending c x m k, o⟩ n s
      else verifyFailed park b l ⟨l, .pending c x m k, o⟩ s := by
  simp [copyEnds, running, pending?_of_inv inv entry]

theorem copyEnds_advances {park : Bool} (running : s.mig.state = .copying b l (.running park false))
    {n : LineNo} (more : n.val < 31) :
    let t := copyEnds n true s
    (∀ n' : LineNo, n'.val = n.val + 1 → (t.remap b).entry? l = some ⟨l, .pending c x n' k, o⟩) ∧
      t.mig = { s.mig with state := (if park then .parked b l else .copying b l .absent) } ∧
      (∀ i, (t.remap b).spare i = (s.remap b).spare i) ∧ keepsOtherRows b l s t ∧
      keepsAllBut [.rmp, .mig] s t := by
  have row := BankRemap.entry?_advance (e := ⟨l, .pending c x m k, o⟩) (entry?_of_inv inv entry) rfl n
  have eq : copyEnds n true s = afterCopy park b l
      (s.setRemap b ((s.remap b).advance ⟨l, .pending c x m k, o⟩ n)) := by
    simp [copyEnds_of_running inv entry running, copied, more]
  have tables (y : Bank) : (copyEnds n true s).remap y =
      if y = b then (s.remap b).advance ⟨l, .pending c x m k, o⟩ n else s.remap y := by
    rw [eq, afterCopy_remap, State.remap_setRemap]
  refine ⟨fun n' next => ?_, ?_, fun i => ?_, keepsOtherRows_of_tables tables row ?_, ?_⟩
  · have succ : n' = n + 1 := Fin.ext (by rw [next, Fin.val_add_one_of_lt' (by simpa using by omega)])
    rw [tables, if_pos rfl, row, if_pos rfl, succ]
  · rw [eq]
    rfl
  · rw [tables, if_pos rfl, BankRemap.spare_advance]
  · rw [eq]
    exact ⟨rfl, rfl⟩
  · simp [eq, keepsAllBut_iff]

theorem copyEnds_commits {park : Bool} (running : s.mig.state = .copying b l (.running park false))
    {n : LineNo} (last : n.val = 31) :
    let t := copyEnds n true s
    (t.remap b).entry? l = some ⟨l, .active x, .volatile⟩ ∧ (t.remap b).spare x = .inUse ∧
      (∀ i, c = some i → (t.remap b).spare i = .retired) ∧
      (∀ i, i ≠ x → c ≠ some i → (t.remap b).spare i = (s.remap b).spare i) ∧ keepsOtherRows b l s t ∧
      t.mig = ⟨.idle, some ⟨.committed, b, l, k⟩⟩ ∧ t.frt = s.frt.atCommit ∧
      latchesOnly .migrationEnd s t ∧ keepsAllBut [.rmp, .mig, .frt, .evt] s t := by
  have row := BankRemap.entry?_commit (e := ⟨l, .pending c x m k, o⟩) (entry?_of_inv inv entry) rfl
  have spare := BankRemap.spare_commit (m := s.remap b) (e := ⟨l, .pending c x m k, o⟩) rfl
  have apart := ((inv.banks b).of_pending (e := ⟨l, .pending c x m k, o⟩) (entry?_of_inv inv entry) rfl).2
  have eq : copyEnds n true s = commitMigration b l ⟨l, .pending c x m k, o⟩ s := by
    simp [copyEnds_of_running inv entry running, copied, last]
  rw [eq]
  have tables := commitMigration_tables b l ⟨l, .pending c x m k, o⟩ s
  have table : (commitMigration b l ⟨l, .pending c x m k, o⟩ s).remap b = _ := (tables b).trans (if_pos rfl)
  refine ⟨by rw [table, row, if_pos rfl], by rw [table, spare, if_pos rfl], fun i current => ?_,
    fun i other former => ?_, keepsOtherRows_of_tables tables row ⟨rfl, rfl⟩, rfl, rfl, rfl,
    by simp [keepsAllBut_iff]⟩
  · rw [table, spare, if_neg (apart i current).2, if_pos current]
  · rw [table, spare, if_neg other, if_neg former]

theorem copyEnds_restarts {park : Bool} (running : s.mig.state = .copying b l (.running park false))
    (n : LineNo) {y : SpareIdx} (few : k.val < 3) (lowest : lowestFree (s.remap b) y) :
    let t := copyEnds n false s
    (∀ k' : Fin 4, k'.val = k.val + 1 → (t.remap b).entry? l = some ⟨l, .pending c y 0 k', o⟩) ∧
      (t.remap b).spare x = .retired ∧ (t.remap b).spare y = .target ∧
      (∀ i, i ≠ x → i ≠ y → (t.remap b).spare i = (s.remap b).spare i) ∧ keepsOtherRows b l s t ∧
      t.mig = { s.mig with state := (if park then .parked b l else .copying b l .absent) } ∧
      (noFree (t.remap b) → latchesOnly .spareExhausted s t) ∧
      (¬noFree (t.remap b) → t.evt = s.evt) ∧ keepsAllBut [.rmp, .mig, .evt] s t := by
  have row := BankRemap.entry?_restart (e := ⟨l, .pending c x m k, o⟩) (entry?_of_inv inv entry) rfl y
  have spare := BankRemap.spare_restart (m := s.remap b) (e := ⟨l, .pending c x m k, o⟩) rfl y
  have target := ((inv.banks b).of_pending (e := ⟨l, .pending c x m k, o⟩) (entry?_of_inv inv entry) rfl).1
  have other : x ≠ y := fun same => by
    have free := lowest.1
    rw [← same, target] at free
    cases free
  have eq : copyEnds n false s = restartMigration park b l ⟨l, .pending c x m k, o⟩ y s := by
    simp [copyEnds_of_running inv entry running, verifyFailed, BankRemap.lowestFree?_eq_some_iff.mpr lowest,
      RemapEntry.restarts, few]
  rw [eq]
  have tables := restartMigration_tables park b l ⟨l, .pending c x m k, o⟩ y s
  have table : (restartMigration park b l ⟨l, .pending c x m k, o⟩ y s).remap b = _ :=
    (tables b).trans (if_pos rfl)
  have exhausted := noteExhausted_latches (s := s) (b := b)
    (t := restartMigration park b l ⟨l, .pending c x m k, o⟩ y s) rfl (by simp)
  refine ⟨fun k' next => ?_, by rw [table, spare, if_neg other, if_pos rfl], by rw [table, spare, if_pos rfl],
    fun i notOld notNew => by rw [table, spare, if_neg notNew, if_neg notOld],
    keepsOtherRows_of_tables tables row ?_, restartMigration_mig .., exhausted.1, exhausted.2,
    by simp [keepsAllBut_iff]⟩
  · have succ : k' = k + 1 := Fin.ext (by rw [next, Fin.val_add_one_of_lt' (by simpa using by omega)])
    rw [table, row, if_pos rfl, succ]
  · simp only [restartMigration, noteExhausted_frame]
    exact ⟨rfl, rfl⟩

theorem copyEnds_fails {park : Bool} (running : s.mig.state = .copying b l (.running park false))
    (n : LineNo) (spent : k.val = 3 ∨ noFree (s.remap b)) :
    let t := copyEnds n false s
    (∀ i, c = some i → (t.remap b).entry? l = some ⟨l, .active i, o⟩) ∧
      (c = none → (t.remap b).entry? l = none) ∧ (t.remap b).spare x = .retired ∧
      (∀ i, i ≠ x → (t.remap b).spare i = (s.remap b).spare i) ∧ keepsOtherRows b l s t ∧
      t.mig = ⟨.idle, some ⟨if k.val = 3 then .failedRestarts else .failedNoSpare, b, l, k⟩⟩ ∧
      t.frt = s.frt.atFailure ∧ latchesOnly .migrationEnd s t ∧
      keepsAllBut [.rmp, .mig, .frt, .evt] s t := by
  have eq : copyEnds n false s = failMigration b l ⟨l, .pending c x m k, o⟩ s := by
    rw [copyEnds_of_running inv entry running, if_neg (by simp), verifyFailed]
    obtain three | none := spent
    · split
      · simp [RemapEntry.restarts, three]
      · rfl
    · rw [BankRemap.lowestFree?_eq_none_iff.mpr none]
  rw [eq]
  obtain ⟨former, fresh, retired, spares, rows⟩ := revertedTable inv entry .retired
    (failMigration_tables b l ⟨l, .pending c x m k, o⟩ s) ⟨rfl, rfl⟩
  have three : (k = 3) = (k.val = 3) := propext Fin.ext_iff
  refine ⟨former, fresh, retired, spares, rows, ?_, rfl, rfl, by simp [keepsAllBut_iff]⟩
  simp [RemapEntry.restarts, three]

/-- The application of an abort on a state `u` with the tables, records and events of `s`, its command then
completed (R116). -/
theorem abortApplied {u t : State} (rmp : u.rmp = s.rmp) (frt : u.frt = s.frt) (evt : u.evt = s.evt)
    (tables : t.rmp = (applyAbort b l u).rmp) (mig : t.mig = (applyAbort b l u).mig)
    (records : t.frt = (applyAbort b l u).frt) (events : t.evt = ((applyAbort b l u).latch .maintDone).evt) :
    (∀ i, c = some i → (t.remap b).entry? l = some ⟨l, .active i, o⟩) ∧
      (c = none → (t.remap b).entry? l = none) ∧ (t.remap b).spare x = .free ∧
      (∀ i, i ≠ x → (t.remap b).spare i = (s.remap b).spare i) ∧ keepsOtherRows b l s t ∧
      t.mig = ⟨.idle, some ⟨.aborted, b, l, k⟩⟩ ∧ t.frt = s.frt.atAbort ∧
      t.evt = { s.evt with latched :=
        s.evt.latched ||| Event.migrationEnd.bit ||| Event.maintDone.bit } := by
  have same (y : Bank) : u.remap y = s.remap y := State.remap_congr rmp y
  have found : (u.remap b).pending? = some ⟨l, .pending c x m k, o⟩ := by
    rw [same]
    exact pending?_of_inv inv entry
  have applied := applyAbort_of_pending found l
  have reverted (y : Bank) : t.remap y =
      if y = b then (s.remap b).revert ⟨l, .pending c x m k, o⟩ .free else s.remap y := by
    rw [State.remap_congr tables, applyAbort_tables found, same, same]
  have select : t.rmp.selectBank = s.rmp.selectBank ∧ t.rmp.selectRow = s.rmp.selectRow := by
    rw [tables, applied, ← rmp]
    exact ⟨rfl, rfl⟩
  obtain ⟨former, fresh, free, spares, rows⟩ := revertedTable inv entry .free reverted select
  refine ⟨former, fresh, free, spares, rows, ?_, ?_, ?_⟩
  · rw [mig, applied]
    rfl
  · rw [records, applied, ← frt]
    rfl
  · rw [events, applied, ← evt]
    rfl

end Migration

/-- Settles O19. -/
theorem copyResultMovesTheMigration : Obligations.CopyResultMovesTheMigration := by
  refine ⟨fun f i r slot moving only => recordEnds slot (FaultTable.migratingSlot?_of_only slot moving only),
    fun f none => recordEnds_none none,
    fun f b p i r slot bank row only => recordTaken slot (FaultTable.slotOf?_of_only slot bank row only),
    fun f b p none => recordTaken_none none, fun s b l park c x m n k o inv running entry => ?_⟩
  exact ⟨copyEnds_advances inv entry running, copyEnds_commits inv entry running,
    fun y few lowest => copyEnds_restarts inv entry running n few lowest, copyEnds_fails inv entry running n⟩

/-! ### ABORT MIGRATION (R114 to R116) -/

theorem withdrawCopy_beginCommand (b : Bank) (c : MntCommand) (s : State) :
    withdrawCopy b (beginCommand c s) = beginCommand c (withdrawCopy b s) := rfl

/-- ABORT MIGRATION by the engine's state (R114, R115). -/
theorem abortMigrationBody_eq (s : State) : abortMigrationBody s.mnt.arg (beginCommand .abortMigration s) =
    match s.mig.state with
    | .idle => completedAt .abortMigration .noMigration s
    | .parked b l => completedAt .abortMigration .done (applyAbort b l s)
    | .copying b l .absent => completedAt .abortMigration .done (applyAbort b l s)
    | .copying b l .waiting => completedAt .abortMigration .done (applyAbort b l (withdrawCopy b s))
    | .copying b l (.running parkPending _) =>
      setEngine (.copying b l (.running parkPending true)) (beginCommand .abortMigration s) := by
  rcases engine : s.mig.state with _ | ⟨b, l, _ | _ | _⟩ | _ <;>
    simp only [abortMigrationBody, beginCommand_frame, completedAt, withdrawCopy_beginCommand,
      applyAbort_beginCommand, engine]

/-- Settles O43. -/
theorem abortEndsTheMigration : Obligations.AbortEndsTheMigration := by
  intro s b l c x n k o inv entry aborted
  have happens (takes : takesCommand s) : exec .abortMigration s = _ :=
    exec_write_of_takesCommand (c := .abortMigration) trivial takes
  simp only [commandBody, abortMigrationBody_eq] at happens
  have applied {u t : State} (rmp : u.rmp = s.rmp) (frt : u.frt = s.frt) (evt : u.evt = s.evt)
      (tables : t.rmp = (applyAbort b l u).rmp) (mig : t.mig = (applyAbort b l u).mig)
      (records : t.frt = (applyAbort b l u).frt) (events : t.evt = ((applyAbort b l u).latch .maintDone).evt) :
      aborted t := abortApplied inv entry rmp frt evt tables mig records events
  refine ⟨fun takes engine => ⟨completedAt .abortMigration .done (applyAbort b l s), ?_, ?_, ?_, ?_⟩,
    fun takes engine => ⟨completedAt .abortMigration .done (applyAbort b l (withdrawCopy b s)), ?_, ?_, ?_, ?_,
      fun d other => ?_, ?_⟩,
    fun park abort takes engine => ?_, fun park verified j engine => ?_⟩
  · obtain engine | engine := engine <;> simpa [engine] using happens takes
  · exact applied (u := s) rfl rfl rfl (by simp) (by simp) (by simp) rfl
  · exact completedAt_mnt_of (by simp) takes.2 ..
  · simp [keepsAllBut_iff]
  · simpa [engine] using happens takes
  · exact applied (u := withdrawCopy b s) (by simp) (by simp) (by simp) (by simp) (by simp)
      (by simp) rfl
  · exact completedAt_mnt_of (by simp) takes.2 ..
  · simp [withdrawCopy]
  · simp [withdrawCopy_bank_ne b s d other]
  · simp [keepsAllBut_iff]
  · exact ⟨_, by simpa [engine] using happens takes, rfl, rfl, by simp [keepsAllBut_iff]⟩
  · have eq : copyEnds j verified s = completeCommand .done (applyAbort b l s) := by simp [copyEnds, engine]
    rw [eq]
    exact ⟨applied (u := s) rfl rfl rfl (by simp) (by simp) (by simp) rfl, by simp, by simp [keepsAllBut_iff]⟩

/-! ### The start of a migration (R101 to R104) -/

/-- Settles O30. -/
theorem migrationStarts : Obligations.MigrationStarts := by
  refine ⟨fun s b l x agrees lowest => ?_, fun s l takes named formatted idle calm some => ?_,
    fun s before later i r auto idle released ready queue slot takes passed => ?_, fun s none => ?_⟩
  · have eq : startMigration b l s = startOn b l x s := by
      simp [startMigration, BankRemap.lowestFree?_eq_some_iff.mpr lowest]
    have row := BankRemap.entry?_create (s.remap b) l x
    have spare := BankRemap.spare_create (s.remap b) l x
    have tables := startOn_tables b l x s
    have table : (startOn b l x s).remap b = _ := (tables b).trans (if_pos rfl)
    have exhausted := noteExhausted_latches (s := s) (b := b) (t := startOn b l x s) rfl (by simp)
    rw [eq]
    refine ⟨fun fresh => ?_, fun c o active => ?_, fun k other => ?_, ?_, fun i other => ?_, fun y other => ?_,
      ?_, by simp [startOn], exhausted.1, exhausted.2, by simp [keepsAllBut_iff]⟩
    · rw [table, row, if_pos rfl, fresh]
    · rw [table, row, if_pos rfl, active]
      rfl
    · rw [table, row, if_neg other]
    · rw [table, spare, if_pos rfl]
    · rw [table, spare, if_neg other]
    · rw [tables, if_neg other]
    · rw [startOn_mig, startState, State.stopped]
  · have happens := exec_write_of_takesCommand (c := .migrateRow) trivial takes
    have rest := rowPending_eq_false_iff.mpr calm
    have free : (s.remap s.mnt.arg.bank).lowestFree? ≠ Option.none := fun none =>
      some (BankRemap.lowestFree?_eq_none_iff.mp none)
    have body : migrateRowBody s.mnt.arg (beginCommand .migrateRow s) =
        completedAt .migrateRow .done (startMigration s.mnt.arg.bank l s) := by
      simp [migrateRowBody, formatted, logicalRow?_of_val named.symm, idle, rest, free,
        startMigration_beginCommand, completedAt]
    rw [commandBody, body] at happens
    exact ⟨_, happens, completedAt_eq (by simp) takes.2 ..⟩
  · have skipped : before.findSome? (fun i => (s.frt.slot i).filter (qualifies s)) = Option.none := by
      simpa [List.findSome?_eq_none_iff, Option.filter_eq_none_iff] using passed
    have selected : selected? s = Option.some r := by
      simp [selected?, queue, List.findSome?_append, skipped, slot, takes]
    exact next_of_after (by simp [after, autoSelect, selectionDue, auto, idle, released, ready, selected])
  · refine next_of_after ?_
    show autoSelect s = s
    unfold autoSelect
    split
    · rename_i due
      simp only [selectionDue, Bool.and_eq_true, beq_iff_eq, Bool.not_eq_true'] at due
      obtain ⟨⟨⟨auto, idle⟩, released⟩, ready⟩ := due
      have passed : ∀ j ∈ s.frt.queue, ∀ q, s.frt.slot j = some q → qualifies s q = false := by
        simpa [auto, idle, released, ready] using none
      have nothing : selected? s = Option.none := by
        simpa [selected?, List.findSome?_eq_none_iff, Option.filter_eq_none_iff] using passed
      rw [nothing]
    · rfl

end Sys2Proof.Machine
end

section
/-! Burn attempts and retention (9.2, 10.5): O31, O46. -/

namespace Sys2Proof.Machine

/-! ### The end of a burn attempt (R94, R155, R156) -/

/-- The origin-change claim is made exactly of an entry that is ACTIVE on the burned spare (R94). -/
theorem burnMatches_iff {m : BankRemap} {l : LogicalRow} {i : SpareIdx} :
    m.burnMatches l i = true ↔ ∃ o, m.entry? l = some ⟨l, .active i, o⟩ := by
  unfold BankRemap.burnMatches
  cases entry : m.entry? l with
  | none => simp
  | some e =>
    have row := BankRemap.row_of_entry? entry
    rcases e with ⟨k, state, o⟩
    subst row
    simp

theorem spares_makePersistent (m : BankRemap) (l : LogicalRow) : (m.makePersistent l).spares = m.spares := by
  unfold BankRemap.makePersistent
  split <;> rfl

/-- The state of a burn that was verified, its command not yet completed (R156). -/
def burned (u : Burn) (s : State) : State :=
  s.setRps { s.rps.setSlot u.slot (.written u.bank u.row u.spare) with burn := none }

theorem burned_slot (u : Burn) (s : State) (i : Fin 48) : (burned u s).rps.slot i =
    if i = u.slot then .written u.bank u.row u.spare else s.rps.slot i := s.rps.slot_setSlot u.slot i _

theorem burnPasses_of_active {u : Burn} {s : State} (active : (s.remap u.bank).burnMatches u.row u.spare = true) :
    burnPasses u s = completeBurn .done u.slot
      ((burned u s).setRemap u.bank ((s.remap u.bank).makePersistent u.row)) := if_pos active

theorem burnPasses_of_other {u : Burn} {s : State}
    (other : ¬(s.remap u.bank).burnMatches u.row u.spare = true) :
    burnPasses u s = completeBurn .superseded u.slot (burned u s) := if_neg other

theorem burnPasses_rps_eq (u : Burn) (s : State) : (burnPasses u s).rps = (burned u s).rps := by
  by_cases active : (s.remap u.bank).burnMatches u.row u.spare = true
  · simp [burnPasses_of_active active]
  · simp [burnPasses_of_other active]

theorem burnPasses_latchesOnly (u : Burn) (s : State) : latchesOnly .maintDone s (burnPasses u s) := by
  by_cases active : (s.remap u.bank).burnMatches u.row u.spare = true
  · rw [burnPasses_of_active active]
    rfl
  · rw [burnPasses_of_other active]
    rfl

theorem attemptFails_of_spent {u : Burn} {s : State} (spent : u.attempt.val = 3 ∨ ∀ j, s.rps.slot j ≠ .blank) :
    attemptFails u s = burnFails u s := by
  unfold attemptFails
  obtain three | none := spent
  · split
    · simp [three]
    · rfl
  · rw [RepairStore.lowestBlank?_eq_none_iff.mpr none]

/-- Settles O31. -/
theorem burnAttemptEnds : Obligations.BurnAttemptEnds := by
  intro s u burn
  have passes : exec (.burnAttemptEnd true) s = .next (burnPasses u s) :=
    next_of_after (by simp [after, attemptEnds, burn])
  have fails : exec (.burnAttemptEnd false) s = .next (attemptFails u s) :=
    next_of_after (by simp [after, attemptEnds, burn])
  refine ⟨⟨_, passes, ?_, ?_, fun i other => ?_, ?_, fun o entry => ?_, fun other => ?_,
    burnPasses_latchesOnly u s, by simp [keepsAllBut_iff]⟩, fun i few blank below => ?_, fun spent => ?_⟩
  · rw [burnPasses_rps_eq]
    rfl
  · rw [burnPasses_rps_eq, burned_slot, if_pos rfl]
  · rw [burnPasses_rps_eq, burned_slot, if_neg other]
  · rw [burnPasses_rps_eq]
    rfl
  · have active := burnMatches_iff.mpr ⟨o, entry⟩
    have row := BankRemap.entry?_makePersistent (s.remap u.bank) u.row
    have tables (y : Bank) : (burnPasses u s).remap y =
        if y = u.bank then (s.remap u.bank).makePersistent u.row else s.remap y := by
      simp [burnPasses_tables, active]
    have table : (burnPasses u s).remap u.bank = _ := (tables u.bank).trans (if_pos rfl)
    refine ⟨by simp [burnPasses_of_active active, burned], ?_, by rw [table, spares_makePersistent],
      keepsOtherRows_of_tables tables row ?_⟩
    · rw [table, row, if_pos rfl, entry]
      rfl
    · rw [burnPasses_of_active active]
      exact ⟨rfl, rfl⟩
  · have superseded := burnPasses_of_other fun active =>
      (burnMatches_iff.mp active).elim fun o entry => other o entry
    rw [superseded]
    exact ⟨by simp [burned], by simp [burned]⟩
  · have lowest : s.rps.lowestBlank? = some i := RepairStore.lowestBlank?_eq_some_iff.mpr ⟨blank, below⟩
    have next : attemptFails u s =
        s.setRps (s.rps.beginAttempt { u with attempt := u.attempt + 1, slot := i }) := by
      simp [attemptFails, lowest, few]
    rw [fails, next]
    refine ⟨_, rfl, (RepairStore.slot_beginAttempt ..).trans (if_pos rfl), ⟨u.attempt + 1, ?_, rfl⟩,
      fun j other => (RepairStore.slot_beginAttempt ..).trans (if_neg other), rfl, by simp [keepsAllBut_iff]⟩
    exact Fin.val_add_one_of_lt' (by simpa using by omega)
  · rw [fails, attemptFails_of_spent spent]
    exact ⟨_, rfl, by simp [burnFails], by simp, rfl, by simp [keepsAllBut_iff]⟩

/-! ### Retention entry (R38, R180) -/

/-- A bank that enters RETAINED at the start of retention entry: IDLE with an empty host slot (R38). -/
def BankSection.retains (k : BankSection) : Bool := k.phase == .idle && k.hostSlot.isNone

theorem BankSection.retains_iff {k : BankSection} : k.retains = true ↔ k.phase = .idle ∧ k.hostSlot = none := by
  simp [BankSection.retains]

/-- A bank's section once the start of retention entry has passed it (R38). -/
def retainIdle (k : BankSection) : BankSection :=
  if k.retains then { k with phase := .retained, debt := 0 } else k

theorem retainIdle_of_retains {k : BankSection} (retains : k.retains = true) :
    (retainIdle k).phase = .retained ∧ (retainIdle k).debt = 0 := by
  simp [retainIdle, retains]

theorem retainIdle_of_stays {k : BankSection} (stays : k.retains = false) : retainIdle k = k := by
  simp [retainIdle, stays]

theorem retainIdle_slots (k : BankSection) :
    ((retainIdle k).condition = k.condition ∧ (retainIdle k).hostSlot = k.hostSlot ∧
      (retainIdle k).clearSlot = k.clearSlot) ∧
    ((retainIdle k).migrationSlot = k.migrationSlot ∧ (retainIdle k).migrationAge = k.migrationAge) ∧
    (retainIdle k).patrolSlot = k.patrolSlot ∧ (retainIdle k).patrolAge = k.patrolAge := by
  unfold retainIdle
  split <;> simp

/-- The state with the banks of a list passed at the start of retention entry. -/
def retainedIn (l : List Bank) (s : State) : State :=
  s.setBanks (Vector.ofFn fun b : Bank => if b ∈ l then retainIdle (s.bank b) else s.bank b)

@[simp] theorem retainedIn_frame (l : List Bank) (s : State) :
    (retainedIn l s).powered = s.powered ∧ (retainedIn l s).rstAsserted = s.rstAsserted ∧
    (retainedIn l s).hpt = s.hpt ∧ (retainedIn l s).req = s.req ∧ (retainedIn l s).buf = s.buf ∧
    (retainedIn l s).cpl = s.cpl ∧ (retainedIn l s).refreshTimer = s.refreshTimer ∧
    (retainedIn l s).rmp = s.rmp ∧ (retainedIn l s).mig = s.mig ∧ (retainedIn l s).frt = s.frt ∧
    (retainedIn l s).ptl = s.ptl ∧ (retainedIn l s).rps = s.rps ∧ (retainedIn l s).mnt = s.mnt ∧
    (retainedIn l s).evt = s.evt ∧ (retainedIn l s).uer = s.uer ∧ (retainedIn l s).array = s.array ∧
    (retainedIn l s).readData = s.readData ∧ (retainedIn l s).lineReads = s.lineReads ∧
    (retainedIn l s).pending = s.pending := by simp [retainedIn]

theorem retainedIn_bank (l : List Bank) (s : State) (b : Bank) :
    (retainedIn l s).bank b = if b ∈ l then retainIdle (s.bank b) else s.bank b := by
  simp [retainedIn, State.bank]

theorem State.setBanks_congr {s : State} {v w : Vector BankSection 8}
    (h : ∀ b : Bank, (s.setBanks v).bank b = (s.setBanks w).bank b) : s.setBanks v = s.setBanks w := by
  have banks : v = w := State.banks_ext (s := s.setBanks w) (t := s.setBanks v) h
  rw [banks]

/-- One bank more passed, its section until then as it was. -/
theorem retainedIn_append {l : List Bank} {b : Bank} (fresh : b ∉ l) (s : State) :
    retainedIn (l ++ [b]) s = if (s.bank b).retains then
      (retainedIn l s).setBank b { (retainedIn l s).bank b with phase := .retained, debt := 0 }
    else retainedIn l s := by
  have own : (retainedIn l s).bank b = s.bank b := by rw [retainedIn_bank, if_neg fresh]
  split
  · rename_i retains
    refine State.setBanks_congr (s := s) fun c => ?_
    show (retainedIn (l ++ [b]) s).bank c = ((retainedIn l s).setBank b _).bank c
    rw [State.bank_setBank, own, retainedIn_bank, retainedIn_bank]
    by_cases same : c = b <;> simp [same, retainIdle, retains]
  · rename_i stays
    refine State.setBanks_congr (s := s) fun c => ?_
    show (retainedIn (l ++ [b]) s).bank c = (retainedIn l s).bank c
    rw [retainedIn_bank, retainedIn_bank]
    by_cases same : c = b
    · simp [same, fresh, retainIdle, stays]
    · simp [same]

/-- One bank's turn at the start of retention entry (R38). -/
def retainTurn (s : State) (b : Bank) : State := if mayRetain b s then retainBank b s else s

/-- Every bank is RETAINED exactly when all have been passed and all could retain. -/
theorem allRetained_retainedIn {s : State} (awake : ∀ b : Bank, (s.bank b).phase ≠ .retained)
    (l : List Bank) :
    allRetained (retainedIn l s) = true ↔ ∀ b : Bank, b ∈ l ∧ (s.bank b).retains = true := by
  rw [allRetained_iff]
  refine forall_congr' fun b => ?_
  rw [retainedIn_bank, retainIdle]
  by_cases member : b ∈ l
  · by_cases retains : (s.bank b).retains = true <;> simp [member, retains, awake b]
  · simp [member, awake b]

section Entry

variable {s : State} (enters : s.hpt.state = .enteringRetention)
include enters

theorem retainTurn_retainedIn {l : List Bank} {b : Bank} (fresh : b ∉ l) :
    retainTurn (retainedIn l s) b =
      if (s.bank b).retains = true ∧ allRetained (retainedIn (l ++ [b]) s) = true then
        enterRetained (retainedIn (l ++ [b]) s)
      else retainedIn (l ++ [b]) s := by
  have own : (retainedIn l s).bank b = s.bank b := by rw [retainedIn_bank, if_neg fresh]
  have may : mayRetain b (retainedIn l s) = (s.bank b).retains := by
    simp [mayRetain, own, enters, BankSection.retains]
  have next := retainedIn_append fresh s
  rw [retainTurn, may]
  by_cases retains : (s.bank b).retains = true
  · rw [if_pos retains] at next
    rw [if_pos retains, retainBank, ← next]
    simp [retains]
  · rw [if_neg retains] at next
    rw [if_neg retains, next]
    simp [retains]

variable (awake : ∀ b : Bank, (s.bank b).phase ≠ .retained)

include awake

/-- Before the last bank the entry cannot end, so the turns only pass banks. -/
theorem foldl_retainTurn {l : List Bank} (nodup : l.Nodup) {c : Bank} (later : c ∉ l) :
    l.foldl retainTurn s = retainedIn l s := by
  induction l using List.reverseRecOn with
  | nil => exact State.setBanks_congr (s := s) (v := s.banks) fun b => (retainedIn_bank [] s b).symm
  | append_singleton l b ih =>
    have fresh : b ∉ l := by simp [List.nodup_append] at nodup; grind
    have notYet : ¬allRetained (retainedIn (l ++ [b]) s) = true := fun all =>
      later ((allRetained_retainedIn awake _).mp all c).1
    rw [List.foldl_append, ih (by grind) (by grind), List.foldl_cons, List.foldl_nil,
      retainTurn_retainedIn enters fresh, if_neg fun h => notYet h.2]

/-- The start of retention entry: the banks that can be RETAINED are, and the entry ends at once exactly if
all are (R38, R180). -/
theorem retainIdleBanks_eq : retainIdleBanks s =
    if ∀ b : Bank, (s.bank b).retains = true then enterRetained (retainedIn allBanks s)
    else retainedIn allBanks s := by
  have before : [0, 1, 2, 3, 4, 5, 6].foldl retainTurn s = retainedIn [0, 1, 2, 3, 4, 5, 6] s :=
    foldl_retainTurn enters awake (by decide) (c := 7) (by decide)
  have turns : retainIdleBanks s = retainTurn ([0, 1, 2, 3, 4, 5, 6].foldl retainTurn s) 7 := rfl
  have all := allRetained_retainedIn awake allBanks
  rw [turns, before, retainTurn_retainedIn enters (by decide)]
  show (if _ ∧ allRetained (retainedIn allBanks s) = true then _ else _) = _
  simp only [all, mem_allBanks, true_and]
  by_cases every : ∀ b : Bank, (s.bank b).retains = true
  · rw [if_pos ⟨every 7, every⟩, if_pos every]
    rfl
  · rw [if_neg fun h => every h.2, if_neg every]
    rfl

end Entry

/-- The state on which the banks take their turns at retention entry (R180). -/
def entryBegun (s : State) : State := withdrawStep (if s.mnt.hold then entering s else park (entering s))

@[simp] theorem entryBegun_frame (s : State) :
    (entryBegun s).powered = s.powered ∧ (entryBegun s).rstAsserted = s.rstAsserted ∧
    (entryBegun s).hpt = { s.hpt with state := .enteringRetention } ∧ (entryBegun s).req = s.req ∧
    (entryBegun s).buf = s.buf ∧ (entryBegun s).cpl = s.cpl ∧
    (entryBegun s).refreshTimer = s.refreshTimer ∧ (entryBegun s).rmp = s.rmp ∧
    (entryBegun s).frt = s.frt ∧ (entryBegun s).rps = s.rps ∧
    (entryBegun s).mnt = mntRunning .enterRetention s ∧ (entryBegun s).evt = s.evt ∧
    (entryBegun s).uer = s.uer ∧ (entryBegun s).array = s.array ∧
    (entryBegun s).readData = s.readData ∧ (entryBegun s).lineReads = s.lineReads ∧
    (entryBegun s).pending = s.pending := by
  have hpt : (entering s).hpt = { s.hpt with state := .enteringRetention } := rfl
  by_cases held : s.mnt.hold = true <;> simp [entryBegun, held, hpt, mntRunning]

theorem entryBegun_mig (s : State) : (entryBegun s).mig = (if s.mnt.hold then s else park s).mig := by
  have parked : (park (entering s)).mig = (park s).mig := by
    simp only [park, entering_frame]
    split <;> simp
  cases held : s.mnt.hold <;> simp [entryBegun, held, parked]

theorem entryBegun_ptl (s : State) : (entryBegun s).ptl =
    if s.ptl.step.waitsAt?.isSome then { s.ptl with step := .none } else s.ptl := by
  have same : (if s.mnt.hold then entering s else park (entering s)).ptl = s.ptl := by split <;> simp
  cases step : s.ptl.step with
  | waiting p => rw [entryBegun, withdrawStep_of_waiting (same ▸ step), withdrawStepAt_ptl, same]; rfl
  | none => rw [entryBegun, withdrawStep_of_not_waiting (by simp [same, step]), same]; rfl
  | running p m => rw [entryBegun, withdrawStep_of_not_waiting (by simp [same, step]), same]; rfl

/-- Retention entry withdraws a waiting copy, unless the hold has, and a waiting step (R111, R146). -/
theorem entryBegun_bank (s : State) (b : Bank) : (entryBegun s).bank b = { s.bank b with
    migrationSlot := if s.mnt.hold = false ∧ s.mig.state.waitsAt? = some b then false
      else (s.bank b).migrationSlot
    migrationAge := if s.mnt.hold = false ∧ s.mig.state.waitsAt? = some b then 0 else (s.bank b).migrationAge
    patrolSlot := if s.ptl.step.waitsAt? = some b then none else (s.bank b).patrolSlot
    patrolAge := if s.ptl.step.waitsAt? = some b then 0 else (s.bank b).patrolAge } := by
  have ptl : (if s.mnt.hold then entering s else park (entering s)).ptl = s.ptl := by split <;> simp
  rw [entryBegun, withdrawStep_section, ptl]
  have mig : (entering s).mig = s.mig := by simp
  cases held : s.mnt.hold
  · simp only [Bool.false_eq_true, if_false, park_section, entering_bank, mig]
    by_cases copy : s.mig.state.waitsAt? = some b <;> by_cases step : s.ptl.step.waitsAt? = some b <;>
      simp [copy, step]
  · rw [if_pos rfl, entering_bank]
    by_cases step : s.ptl.step.waitsAt? = some b <;> simp [step]

/-- ENTER RETENTION taken in READY (R180). -/
theorem exec_enterRetention {s : State} (takes : takesCommand s) (ready : s.hpt.state = .ready) :
    exec .enterRetention s = .next (retainIdleBanks (entryBegun s)) := by
  have happens := exec_write_of_takesCommand (c := .enterRetention) trivial takes
  have body : enterRetentionBody s.mnt.arg (beginCommand .enterRetention s) = retainIdleBanks (entryBegun s) := by
    rw [enterRetentionBody, if_neg (by simp [ready, inRetention])]
    rfl
  rwa [commandBody, body] at happens

/-- The start of retention entry bank by bank, and the blocks it leaves (R38, R39). -/
theorem retainedEntry_bank {s t : State} (banks : t.banks = (retainedIn allBanks (entryBegun s)).banks) (b : Bank) :
    t.bank b = retainIdle ((entryBegun s).bank b) := by
  rw [State.bank_congr banks, retainedIn_bank, if_pos (mem_allBanks b)]

theorem entryBegun_retains (s : State) (b : Bank) : ((entryBegun s).bank b).retains = (s.bank b).retains := by
  rw [entryBegun_bank]
  rfl

/-- What retention entry makes of one bank: RETAINED with debt 0 or as it was, with what was withdrawn out of
its slots (R38, R39). -/
structure BankEntered (s : State) (b : Bank) (k : BankSection) : Prop where
  retained : (s.bank b).retains = true → k.phase = .retained ∧ k.debt = 0
  stays : (s.bank b).retains = false → k.phase = (s.bank b).phase ∧ k.debt = (s.bank b).debt
  kept : k.condition = (s.bank b).condition ∧ k.hostSlot = (s.bank b).hostSlot ∧ k.clearSlot = (s.bank b).clearSlot
  patrol : s.ptl.step.waitsAt? = some b → k.patrolSlot = none ∧ k.patrolAge = 0
  noPatrol : s.ptl.step.waitsAt? ≠ some b → k.patrolSlot = (s.bank b).patrolSlot ∧ k.patrolAge = (s.bank b).patrolAge
  copy : s.mnt.hold = false → s.mig.state.waitsAt? = some b → k.migrationSlot = false ∧ k.migrationAge = 0
  noCopy : s.mnt.hold = true ∨ s.mig.state.waitsAt? ≠ some b →
    k.migrationSlot = (s.bank b).migrationSlot ∧ k.migrationAge = (s.bank b).migrationAge

theorem bankEntered (s : State) (b : Bank) : BankEntered s b (retainIdle ((entryBegun s).bank b)) := by
  have fields := entryBegun_bank s b
  have retains := entryBegun_retains s b
  obtain ⟨slots, migration, patrol⟩ := retainIdle_slots ((entryBegun s).bank b)
  constructor
  · intro h
    exact retainIdle_of_retains (retains.trans h)
  · intro h
    rw [retainIdle_of_stays (retains.trans h), fields]
    exact ⟨rfl, rfl⟩
  · rw [slots.1, slots.2.1, slots.2.2, fields]
    exact ⟨rfl, rfl, rfl⟩
  · intro waits
    rw [patrol.1, patrol.2, fields]
    simp [waits]
  · intro waits
    rw [patrol.1, patrol.2, fields]
    simp [waits]
  · intro held waits
    rw [migration.1, migration.2, fields]
    simp [held, waits]
  · rintro (held | waits)
    · rw [migration.1, migration.2, fields]
      simp [held]
    · rw [migration.1, migration.2, fields]
      simp [waits]

/-- The end of retention entry: RETAINED, the timer STOPPED, ENTER RETENTION DONE (R38, R39). -/
theorem enterRetained_entryBegun {s t : State} (idle : s.mnt.running = none) (hpt : t.hpt = (entryBegun s).hpt)
    (mnt : t.mnt = (entryBegun s).mnt) (evt : t.evt = s.evt) :
    (enterRetained t).hpt = { s.hpt with state := .retained } ∧ (enterRetained t).refreshTimer = .stopped ∧
    (enterRetained t).mnt = mntCompleted .enterRetention .done s ∧ latchesOnly .maintDone s (enterRetained t) := by
  refine ⟨?_, by simp [enterRetained], ?_, ?_⟩
  · simp [enterRetained, hpt]
  · exact completeCommand_mnt_of_begun idle (t := (t.setHpt _).setRefreshTimer _) (by simp [mnt, mntRunning]) .done
  · show (enterRetained t).evt = { s.evt with latched := s.evt.latched ||| Event.maintDone.bit }
    rw [← evt]
    exact completeCommand_latchesOnly .done _

/-- What every bank and block holds after the start of retention entry, whether it ended at once or not. -/
structure EntryMade (s t : State) : Prop where
  bank : ∀ b, BankEntered s b (t.bank b)
  ptl : t.ptl = (entryBegun s).ptl
  mig : t.mig = (entryBegun s).mig
  frame : keepsAllBut [.hpt, .bsq, .refreshTimer, .mig, .ptl, .mnt, .evt] s t

theorem entryMade_retainedIn (s : State) : EntryMade s (retainedIn allBanks (entryBegun s)) where
  bank b := retainedEntry_bank rfl b ▸ bankEntered s b
  ptl := by simp
  mig := by simp
  frame := by simp [keepsAllBut_iff]

theorem EntryMade.enterRetained {s t : State} (made : EntryMade s t) : EntryMade s (Machine.enterRetained t) where
  bank b := by simpa using made.bank b
  ptl := by simpa using made.ptl
  mig := by simpa using made.mig
  frame := keepsAllBut_trans made.frame (by simp [keepsAllBut_iff])

/-- The clauses of R180 that hold of every bank, of PTL and of the engine. -/
theorem EntryMade.withdrawn {s t : State} (made : EntryMade s t) :
    (∀ p, s.ptl.step = .waiting p → t.ptl = { s.ptl with step := .none } ∧
      (t.bank p.bank).patrolSlot = none ∧ (t.bank p.bank).patrolAge = 0) ∧
    ((∀ p, s.ptl.step ≠ .waiting p) → t.ptl = s.ptl) ∧
    (∀ b : Bank, (∀ p, s.ptl.step = .waiting p → p.bank ≠ b) →
      (t.bank b).patrolSlot = (s.bank b).patrolSlot ∧ (t.bank b).patrolAge = (s.bank b).patrolAge) ∧
    (∀ b l, s.mnt.hold = false → s.mig.state = .copying b l .waiting →
      (t.bank b).migrationSlot = false ∧ (t.bank b).migrationAge = 0) ∧
    (∀ b : Bank, s.mnt.hold = true ∨ (∀ l, s.mig.state ≠ .copying b l .waiting) →
      (t.bank b).migrationSlot = (s.bank b).migrationSlot ∧
      (t.bank b).migrationAge = (s.bank b).migrationAge) := by
  refine ⟨fun p waits => ⟨?_, ?_⟩, fun rests => ?_, fun b rests => ?_, fun b l held waits => ?_, fun b stays => ?_⟩
  · rw [made.ptl, entryBegun_ptl, waits]
    rfl
  · exact (made.bank p.bank).patrol (by simp [waits, PatrolStep.waitsAt?])
  · rw [made.ptl, entryBegun_ptl, if_neg]
    rw [Option.isSome_iff_exists]
    rintro ⟨b, waits⟩
    obtain ⟨p, step, -⟩ := PatrolStep.waitsAt?_eq_some_iff.mp waits
    exact rests p step
  · refine (made.bank b).noPatrol fun waits => ?_
    obtain ⟨p, step, there⟩ := PatrolStep.waitsAt?_eq_some_iff.mp waits
    exact rests p step there
  · exact (made.bank b).copy held (EngineState.waitsAt?_eq_some_iff.mpr ⟨l, waits⟩)
  · refine (made.bank b).noCopy (stays.imp_right fun rests waits => ?_)
    obtain ⟨l, engine⟩ := EngineState.waitsAt?_eq_some_iff.mp waits
    exact rests l engine

theorem EntryMade.step {s t : State} (made : EntryMade s t) (p : Position) : t.ptl.step ≠ .waiting p := by
  rw [made.ptl, entryBegun_ptl]
  split
  · simp
  · rename_i rests
    intro step
    simp [step, PatrolStep.waitsAt?] at rests

theorem exec_exitRetention {s : State} (takes : takesCommand s) (retained : s.hpt.state = .retained) :
    exec .exitRetention s = .next (leaving s) := by
  have happens := exec_write_of_takesCommand (c := .exitRetention) trivial takes
  have body : exitRetentionBody s.mnt.arg (beginCommand .exitRetention s) = leaving s := by
    rw [exitRetentionBody, if_pos (by simp [retained, inRetention])]
    rfl
  rwa [commandBody, body] at happens

theorem exec_retentionExitEnd {s : State} (left : s.hpt.state = .leavingRetention) :
    exec .retentionExitEnd s = .next (if s.mnt.hold then exited s else unpark (exited s)) :=
  next_of_after (if_pos left)

theorem unpark_exited_mig (s : State) : (unpark (exited s)).mig = (unpark s).mig := by
  simp only [unpark, exited_frame]
  split <;> simp

/-- Settles O46. -/
theorem retentionEntryAndExit : Obligations.RetentionEntryAndExit := by
  refine ⟨fun s takes ready awake => ?_, fun s takes retained => ?_, fun s left => ?_⟩
  · have enters : (entryBegun s).hpt.state = .enteringRetention := by simp
    have slept (b : Bank) : ((entryBegun s).bank b).phase ≠ .retained := by
      rw [entryBegun_bank]
      exact awake b
    have turns := retainIdleBanks_eq enters slept
    simp only [entryBegun_retains] at turns
    obtain ⟨t, ends, made, all, notAll⟩ : ∃ t, retainIdleBanks (entryBegun s) = t ∧ EntryMade s t ∧
        ((∀ b, (s.bank b).retains = true) → t = enterRetained (retainedIn allBanks (entryBegun s))) ∧
        ((¬∀ b, (s.bank b).retains = true) → t = retainedIn allBanks (entryBegun s)) := by
      refine ⟨_, rfl, ?_, fun every => by rw [turns, if_pos every], fun some => by rw [turns, if_neg some]⟩
      rw [turns]
      split
      · exact (entryMade_retainedIn s).enterRetained
      · exact entryMade_retainedIn s
    obtain ⟨step, noStep, patrol, copy, noCopy⟩ := made.withdrawn
    refine ⟨t, ends ▸ exec_enterRetention takes ready, fun b idle empty => ?_, fun b stays => ?_, fun every => ?_,
      fun ⟨b, stays⟩ => ?_, step, noStep, patrol, copy, noCopy, fun b => (made.bank b).kept, made.step,
      made.mig.trans (entryBegun_mig s), made.frame⟩
    · exact (made.bank b).retained (BankSection.retains_iff.mpr ⟨idle, empty⟩)
    · have stays : (s.bank b).retains = false := by
        rw [Bool.eq_false_iff, ne_eq, BankSection.retains_iff, not_and_or]
        exact stays
      obtain ⟨phase, debt⟩ := (made.bank b).stays stays
      exact ⟨phase, debt, (made.bank b).kept.2.1⟩
    · rw [all fun b => BankSection.retains_iff.mpr (every b)]
      exact enterRetained_entryBegun takes.2 (by simp) (by simp) (by simp)
    · rw [notAll fun every => ?_]
      · exact ⟨by simp, by simp, by simp, by simp⟩
      · exact stays.elim (absurd (BankSection.retains_iff.mp (every b)).1)
          (absurd (BankSection.retains_iff.mp (every b)).2)
  · refine ⟨_, exec_exitRetention takes retained, rfl, rfl, fun b sleeps => ?_, fun b awake => ?_,
      by simp [keepsAllBut_iff]⟩
    · rw [leaving_section, leaveRetained, if_pos sleeps]
    · rw [leaving_section, leaveRetained, if_neg awake]
  · have latched : latchesOnly .maintDone s (exited s) := rfl
    refine ⟨_, exec_retentionExitEnd left, ?_⟩
    by_cases held : s.mnt.hold = true
    · rw [if_pos held, if_pos held]
      exact ⟨rfl, rfl, rfl, latched, rfl, by simp [keepsAllBut_iff]⟩
    · rw [if_neg held, if_neg held]
      refine ⟨by simp [exited], by simp [exited], by simp [exited], ?_, unpark_exited_mig s, by simp [keepsAllBut_iff]⟩
      simpa [latchesOnly] using latched

end Sys2Proof.Machine
end

section
/-! The ends of the bank operations: O15, O16, O17, O18, O20, O22. -/

namespace Sys2Proof.Machine

/-! ### Line effects on the array (R2, R6, R10) -/

theorem keepsOtherLines_writeCell (s : State) (b : Bank) (r : PhysRow) (n : LineNo) (c : LineCell) :
    keepsOtherLines [lineAddress b r n] s (s.writeCell b r n c) := fun _ other =>
  Memory.read_write_other _ _ _ _ (by simpa using other)

theorem keepsOtherLines.mono {l k : List Nat} {s t : State} (keeps : keepsOtherLines l s t) (more : l ⊆ k) :
    keepsOtherLines k s t := fun a outside => keeps a fun inside => outside (more inside)

theorem keepsOtherLines.trans {l : List Nat} {s t u : State} (first : keepsOtherLines l s t)
    (second : keepsOtherLines l t u) : keepsOtherLines l s u := fun a outside =>
  (second a outside).trans (first a outside)

/-- A write of one content to the line of every write row (R10). -/
def State.writeRows (s : State) (b : Bank) (rows : Rows) (n : LineNo) (c : LineCell) : State :=
  match rows.target with
  | none => s.writeCell b rows.source n c
  | some t => (s.writeCell b rows.source n c).writeCell b t n c

theorem State.writeDataRows_eq (s : State) (b : Bank) (rows : Rows) (n : LineNo) (w : LineWords) :
    s.writeDataRows b rows n w = s.writeRows b rows n ⟨.data w, []⟩ := rfl

theorem State.poisonRows_eq (s : State) (b : Bank) (rows : Rows) (n : LineNo) :
    s.poisonRows b rows n = s.writeRows b rows n ⟨.poison, []⟩ := rfl

theorem keepsOtherLines_writeRows (s : State) (b : Bank) (rows : Rows) (n : LineNo) (c : LineCell) :
    keepsOtherLines (rows.addresses b n) s (s.writeRows b rows n c) := by
  obtain ⟨source, target⟩ := rows
  cases target with
  | none => exact keepsOtherLines_writeCell _ _ _ _ _
  | some t =>
    exact ((keepsOtherLines_writeCell s b source n c).mono (by simp [Rows.addresses])).trans
      ((keepsOtherLines_writeCell _ b t n c).mono (by simp [Rows.addresses]))

theorem rowsHold_writeRows {s : State} (canonical : s.array.wf = true) (b : Bank) (rows : Rows) (n : LineNo)
    (form : LineForm) : rowsHold (s.writeRows b rows n ⟨form, []⟩) b rows n form := by
  obtain ⟨source, target⟩ := rows
  cases target with
  | none => exact ⟨s.cell_writeCell_same _ _ _ _ canonical, nofun⟩
  | some t =>
    have written : ((s.writeCell b source n ⟨form, []⟩).writeCell b t n ⟨form, []⟩).cell b t n = ⟨form, []⟩ :=
      State.cell_writeCell_same _ _ _ _ _ (s.writeCell_wf _ _ _ _ canonical)
    refine ⟨?_, fun p there => ?_⟩
    · by_cases same : source = t
      · exact same ▸ written
      · exact (State.cell_writeCell_other _ _ _ _ _ _ _ _ fun h => same h.2.1).trans
          (s.cell_writeCell_same _ _ _ _ canonical)
    · cases there
      exact written

theorem lineRepaired_repairLine {s : State} (canonical : s.array.wf = true) (b : Bank) (rows : Rows) (n : LineNo)
    (r : ReadResult) : lineRepaired b rows n r s (repairLine b rows n r s.countRead) := by
  unfold lineRepaired repairLine
  cases r.outcome with
  | clean => rfl
  | corrected i => exact ⟨State.cell_writeCell_same _ _ _ _ _ canonical, keepsOtherLines_writeCell s.countRead _ _ _ _⟩
  | uncorrectable =>
    exact ⟨rowsHold_writeRows (s := s.countRead) canonical _ _ _ _, keepsOtherLines_writeRows s.countRead _ _ _ _⟩
  | poisoned => rfl

theorem State.cell_of_array {s t : State} (same : t.array = s.array) : t.cell = s.cell := by
  funext b r n
  simp only [State.cell, same]

theorem rowsHold.of_array {t u : State} {b : Bank} {rows : Rows} {n : LineNo} {form : LineForm}
    (holds : rowsHold t b rows n form) (same : u.array = t.array) : rowsHold u b rows n form := by
  rwa [rowsHold, State.cell_of_array same]

theorem keepsOtherLines.of_array {s t u : State} {l : List Nat} (keeps : keepsOtherLines l s t)
    (same : u.array = t.array) : keepsOtherLines l s u := by rwa [keepsOtherLines, same]

theorem lineRepaired.of_array {s t u : State} {b : Bank} {rows : Rows} {n : LineNo} {r : ReadResult}
    (repaired : lineRepaired b rows n r s t) (same : u.array = t.array) : lineRepaired b rows n r s u := by
  unfold lineRepaired at repaired ⊢
  rwa [same, State.cell_of_array same, rowsHold, State.cell_of_array same, keepsOtherLines, keepsOtherLines, same]

/-! ### The end of a host operation (R13 to R15, R70) -/

/-- A completion is one relative to every state with the same requests, completions and buffers. -/
theorem requestCompleted.of_same {q : Request} {o : HostOutcome} {f : Bool} {w : LineWords} {s s' t : State}
    (done : requestCompleted q o f w s' t) (req : s'.req = s.req) (buf : s'.buf = s.buf)
    (cpl : s'.cpl = s.cpl) : requestCompleted q o f w s t := by
  rwa [requestCompleted, req, buf, cpl] at done

/-- The requester's part of the end of a host operation, on the state with the bank IDLE again. -/
theorem completeRequest_idleBank (b : Bank) (q : Request) (o : HostOutcome) (f : Bool) (d : Option LineWords)
    {s e : State} (req : e.req = s.req) (buf : e.buf = s.buf) (cpl : e.cpl = s.cpl) :
    requestCompleted q o f (completedWords (s.buf.line q.buffer).words d) s
      (completeRequest q o f d (idleBank b e)) := by
  have done := completeRequest_completes q o f d (idleBank b e)
  have kept : (idleBank b e).buf = s.buf := by simp [buf]
  rw [kept] at done
  exact done.of_same (by simp [req]) kept (by simp [cpl])

/-- Settles O15. -/
theorem readLineEndDelivers : Obligations.ReadLineEndDelivers := by
  refine ⟨fun b row l n reader i => ⟨rfl, rfl, rfl, rfl, rfl, rfl, rfl, rfl, rfl, rfl, rfl, rfl⟩,
    fun b s q rows spare busy canonical => ?_⟩
  let r := s.readResult b rows.source q.line
  have repaired := lineRepaired_repairLine canonical b rows q.line r
  refine ⟨completeRequest q (readOutcome r.outcome) spare (some r.words)
    (idleBank b (repairLine b rows q.line r s.countRead)), exec_endsBy busy [], repaired.of_array (by simp),
    completeRequest_idleBank b q _ _ _ (by simp) (by simp) (by simp), by simp, fun c other => ?_,
    by simp [State.countRead], by simp [keepsAllBut_iff]⟩
  simp [idleBank_bank_ne b _ c other]

theorem mergeWords_getElem (mask : BitVec 8) (words delivered : LineWords) (i : WordIdx) :
    (mergeWords mask words delivered)[i] = if mask.getLsbD i.val then words[i] else delivered[i] := by
  simp [mergeWords]

/-- What MERGE LINE leaves of its lines after a read with result `r` (R15). -/
def lineMerged (b : Bank) (rows : Rows) (n : LineNo) (mask : BitVec 8) (words : LineWords) (r : ReadResult)
    (s t : State) : Prop :=
  match r.outcome with
  | .clean | .corrected _ =>
    (∃ w : LineWords, rowsHold t b rows n (.data w) ∧
      ∀ i : WordIdx, w[i] = if mask.getLsbD i.val then words[i] else r.words[i]) ∧
    keepsOtherLines (rows.addresses b n) s t
  | .uncorrectable => rowsHold t b rows n .poison ∧ keepsOtherLines (rows.addresses b n) s t
  | .poisoned => t.array = s.array

theorem lineMerged_mergeLineEffect {s t : State} (canonical : s.array.wf = true) (b : Bank) (rows : Rows)
    (n : LineNo) (mask : BitVec 8) (words : LineWords) (r : ReadResult)
    (same : t.array = (mergeLineEffect b rows n mask words r s.countRead).array) :
    lineMerged b rows n mask words r s t := by
  have stored (c : LineForm) (same : t.array = (s.countRead.writeRows b rows n ⟨c, []⟩).array) :
      rowsHold t b rows n c ∧ keepsOtherLines (rows.addresses b n) s t :=
    ⟨(rowsHold_writeRows (s := s.countRead) canonical _ _ _ _).of_array same,
      (keepsOtherLines_writeRows s.countRead _ _ _ _).of_array same⟩
  have merged (w : LineWords) (eq : w = mergeWords mask words r.words)
      (same : t.array = (s.countRead.writeRows b rows n ⟨.data w, []⟩).array) :
      (∃ w : LineWords, rowsHold t b rows n (.data w) ∧
        ∀ i : WordIdx, w[i] = if mask.getLsbD i.val then words[i] else r.words[i]) ∧
      keepsOtherLines (rows.addresses b n) s t := by
    obtain ⟨holds, keeps⟩ := stored (.data w) same
    exact ⟨⟨w, holds, fun i => eq ▸ mergeWords_getElem mask words r.words i⟩, keeps⟩
  unfold lineMerged
  unfold mergeLineEffect at same
  cases outcome : r.outcome <;> rw [outcome] at same
  · exact merged _ rfl same
  · exact merged _ rfl same
  · exact stored .poison same
  · exact same

/-- Settles O16. -/
theorem writeAndMergeLineEndsStore : Obligations.WriteAndMergeLineEndsStore := by
  refine ⟨fun b s q rows spare words busy canonical => ?_, fun b s q rows spare mask words busy canonical => ?_⟩
  · refine ⟨completeRequest q .ok spare none (idleBank b (s.writeDataRows b rows q.line words)),
      exec_endsBy busy [], (rowsHold_writeRows canonical b rows q.line (.data words)).of_array ?_,
      (keepsOtherLines_writeRows s b rows q.line ⟨.data words, []⟩).of_array ?_,
      completeRequest_idleBank b q .ok spare none (by simp) (by simp) (by simp), by simp, fun c other => ?_,
      by simp [keepsAllBut_iff]⟩
    · simp [State.writeDataRows_eq]
    · simp [State.writeDataRows_eq]
    · simp [idleBank_bank_ne b _ c other]
  · let r := s.readResult b rows.source q.line
    let v := completeRequest q (mergeOutcome r.outcome) spare none
      (idleBank b (mergeLineEffect b rows q.line mask words r s.countRead))
    have lines : lineMerged b rows q.line mask words r s v :=
      lineMerged_mergeLineEffect canonical b rows _ _ _ _ (by simp [v])
    refine ⟨v, exec_endsBy busy [], lines,
      completeRequest_idleBank b q _ _ none (by simp) (by simp) (by simp), by simp [v], fun c other => ?_,
      by simp [v, State.countRead], by simp [v, keepsAllBut_iff]⟩
    simp [v, idleBank_bank_ne b _ c other]

/-! ### The end of SCRUB LINE (R16, R142, R143) -/

theorem stepEnds_of_running {s : State} {p : Position} {marked : Bool} (running : s.ptl.step = .running p marked) :
    stepEnds s = if marked then forgetStep s else advanceCursor p (forgetStep s) := by
  simp [stepEnds, running]

/-- Settles O17. -/
theorem scrubLineEndMovesTheCursor : Obligations.ScrubLineEndMovesTheCursor := by
  intro b s rows n l p marked busy canonical running
  let r := s.readResult b rows.source n
  let e := idleBank b (repairLine b rows n r s.countRead)
  have repaired := lineRepaired_repairLine canonical b rows n r
  have ptl : e.ptl = s.ptl := by simp [e]
  have frt : e.frt = s.frt := by simp [e]
  have evt : e.evt = s.evt := by simp [e]
  have ends := stepEnds_of_running (s := e) (ptl ▸ running)
  refine ⟨stepEnds e, exec_endsBy busy [], repaired.of_array (by simp [e]), fun mark => ?_, fun p' mark next => ?_,
    fun mark last => ?_, by simp [e], fun c other => ?_, by simp [e, State.countRead], by simp [e, keepsAllBut_iff]⟩
  · rw [ends, if_pos mark, ← ptl, ← frt, ← evt]
    exact ⟨rfl, rfl, rfl⟩
  · rw [ends, mark, if_neg Bool.false_ne_true, advanceCursor, Position.next_eq_some_iff.mpr next, ← ptl, ← frt, ← evt]
    exact ⟨rfl, rfl, rfl⟩
  · rw [ends, mark, if_neg Bool.false_ne_true, advanceCursor, Position.next_eq_none_iff.mpr last, latchesOnly, ← ptl,
      ← frt, ← evt]
    exact ⟨rfl, rfl, rfl⟩
  · simp [e, idleBank_bank_ne b _ c other]

/-! ### The end of COPY LINE (R17, R18) -/

/-- Bits that change after a line was written stand in it alone (R3). -/
theorem cell_strike_writeCell {s : State} (canonical : s.array.wf = true) (b : Bank) (r : PhysRow) (n : LineNo)
    (form : LineForm) (struck : List BitPos) :
    ((s.writeCell b r n ⟨form, []⟩).strike b r n struck).cell b r n = ⟨form, struck⟩ := by
  rw [State.strike, State.cell_writeCell_same _ _ _ _ _ canonical]
  exact State.cell_writeCell_same _ _ _ _ _ (s.writeCell_wf _ _ _ _ canonical)

theorem keepsOtherLines_strike_writeCell (s : State) (b : Bank) (r : PhysRow) (n : LineNo) (c : LineCell)
    (struck : List BitPos) :
    keepsOtherLines [lineAddress b r n] s ((s.writeCell b r n c).strike b r n struck) :=
  (keepsOtherLines_writeCell s b r n c).trans (keepsOtherLines_writeCell _ b r n _)

/-- What the copy writes to the target line after a source read with result `r` (R17). -/
def copiedForm (r : ReadResult) : LineForm :=
  match r.outcome with
  | .clean => .data r.words
  | .corrected _ => .data r.words
  | .uncorrectable => .poison
  | .poisoned => .poison

/-- The source line after the source read: poisoned where that was uncorrectable (R17). -/
def sourceMarked (b : Bank) (source : PhysRow) (n : LineNo) (r : ReadResult) (s : State) : State :=
  if r.outcome = .uncorrectable then s.writePoison b source n else s

theorem copyLineEffect_eq (b : Bank) (source : PhysRow) (target : SpareIdx) (n : LineNo) (r : ReadResult)
    (s : State) : copyLineEffect b source target n r s =
      (sourceMarked b source n r s).writeCell b target.physical n ⟨copiedForm r, []⟩ := by
  cases outcome : r.outcome <;>
    simp [copyLineEffect, sourceMarked, copiedForm, outcome, State.writeData, State.writePoison]

/-- A target without changed bits passes its verify read (R17, Table 1-3). -/
theorem readCell_copiedForm (k : Nat) (r : ReadResult) :
    (readCell k ⟨copiedForm r, []⟩).outcome = expectedVerify r.outcome := by
  cases outcome : r.outcome <;> simp [copiedForm, outcome, expectedVerify] <;> rfl

/-- The state before the verify read: the copy made, and the target struck (R17). -/
def copyStruck (b : Bank) (source : PhysRow) (target : SpareIdx) (n : LineNo) (struck : List BitPos)
    (s : State) : State :=
  (copyLineEffect b source target n (s.readResult b source n) s.countRead).strike b target.physical n struck

/-- The verify read is a read of the target after the copy (R17, R18). -/
theorem copyVerified_iff (b : Bank) (source : PhysRow) (target : SpareIdx) (n : LineNo) (struck : List BitPos)
    (s : State) : copyVerified b source target n struck s = true ↔
      (readCell (s.lineReads + 1) ((copyStruck b source target n struck s).cell b target.physical n)).outcome =
        expectedVerify (s.readResult b source n).outcome := by
  simp only [copyVerified, decide_eq_true_iff, copyStruck]
  rw [State.readResult.eq_def (State.strike ..)]
  simp [State.countRead]

section Copy

variable {s : State} (canonical : s.array.wf = true) (b : Bank) (source : PhysRow) (target : SpareIdx) (n : LineNo)
  (struck : List BitPos)
include canonical

theorem copyStruck_target : (copyStruck b source target n struck s).cell b target.physical n =
    ⟨copiedForm (s.readResult b source n), struck⟩ := by
  have wf : (sourceMarked b source n (s.readResult b source n) s.countRead).array.wf = true := by
    unfold sourceMarked
    split
    · exact State.writePoison_wf _ _ _ _ canonical
    · exact canonical
  rw [copyStruck, copyLineEffect_eq]
  exact cell_strike_writeCell wf _ _ _ _ _

omit canonical in
/-- Where the source read is no UNCORRECTABLE one, the target line alone is written (R17). -/
theorem copyStruck_keeps (read : (s.readResult b source n).outcome ≠ .uncorrectable) :
    keepsOtherLines [lineAddress b target.physical n] s (copyStruck b source target n struck s) := by
  rw [copyStruck, copyLineEffect_eq, sourceMarked, if_neg read]
  exact keepsOtherLines_strike_writeCell s.countRead _ _ _ _ _

/-- After an UNCORRECTABLE source read the source line is poisoned too (R17). -/
theorem copyStruck_of_uncorrectable (apart : source ≠ target.physical)
    (read : (s.readResult b source n).outcome = .uncorrectable) :
    (copyStruck b source target n struck s).cell b source n = ⟨.poison, []⟩ ∧
    keepsOtherLines [lineAddress b source n, lineAddress b target.physical n] s (copyStruck b source target n struck s) := by
  have outside : ¬(b = b ∧ source = target.physical ∧ n = n) := fun h => apart h.2.1
  rw [copyStruck, copyLineEffect_eq, sourceMarked, if_pos read]
  refine ⟨?_, ((keepsOtherLines_writeCell s.countRead b source n _).mono (by simp)).trans
    ((keepsOtherLines_strike_writeCell _ b target.physical n _ struck).mono (by simp))⟩
  rw [State.strike, State.cell_writeCell_other _ _ _ _ _ _ _ _ outside,
    State.cell_writeCell_other _ _ _ _ _ _ _ _ outside]
  exact State.cell_writeCell_same _ _ _ _ _ canonical

end Copy

/-- Settles O18. -/
theorem copyLineEndCopiesAndVerifies : Obligations.CopyLineEndCopiesAndVerifies := by
  intro b s l source target n struck busy canonical apart
  let e := copyStruck b source target n struck s
  let v := idleBank b e.countRead
  have written := copyStruck_target canonical b source target n struck
  have array : v.array = e.array := by simp [v, State.countRead]
  have cell : v.cell = e.cell := State.cell_of_array array
  have verify := copyVerified_iff b source target n struck s
  refine ⟨v, copyVerified b source target n struck s, exec_endsBy busy struck, ?_, fun unstruck => ?_,
    by simp [v, e, copyStruck, State.countRead], fun c other => ?_, by simp [v, e, copyStruck, State.countRead],
    by simp [v, e, copyStruck, State.countRead, keepsAllBut_iff]⟩
  · have keeps := copyStruck_keeps b source target n struck (s := s)
    have poisons := copyStruck_of_uncorrectable canonical b source target n struck apart
    rw [cell]
    generalize outcome : (s.readResult b source n).outcome = o at *
    cases o with
    | clean => 
      refine ⟨?_, (keeps nofun).of_array array, verify⟩
      rw [written, copiedForm, outcome]
    | corrected i =>
      refine ⟨?_, (keeps nofun).of_array array, verify⟩
      rw [written, copiedForm, outcome]
    | uncorrectable => 
      refine ⟨(poisons rfl).1, ?_, (poisons rfl).2.of_array array, verify⟩
      rw [written, copiedForm, outcome]
    | poisoned =>
      refine ⟨?_, (keeps nofun).of_array array, verify⟩
      rw [written, copiedForm, outcome]
  · rw [verify, written, unstruck]
    exact readCell_copiedForm ..
  · simp [v, e, copyStruck, idleBank_bank_ne b _ c other, State.countRead]

/-! ### The end of CLEAR LINE (R19, R176, R177) -/

section Clear

variable {s : State} {b : Bank} {at' : RowLine} (clear : s.mnt.clear = some ⟨b, at'⟩)
include clear

/-- The bank clear moves on to the next line it writes (R176). -/
theorem clearLineEnds_of_some {p q : RowLine} (next : clearAfter (s.remap b) p = some q) :
    clearLineEnds b p s = s.setMnt { s.mnt with clear := some ⟨b, q⟩ } := by
  simp [clearLineEnds, clear, next]

/-- The bank clear ends after its last line (R177). -/
theorem clearLineEnds_of_none {p : RowLine} (last : clearAfter (s.remap b) p = none) :
    clearLineEnds b p s = finishClear b s := by
  simp [clearLineEnds, clear, last]

end Clear

/-- Settles O20. -/
theorem clearLineEndGoesOn : Obligations.ClearLineEndGoesOn := by
  intro b s row n at' busy canonical clear
  let e := idleBank b (s.writeData b row n .zero)
  have bank : e.bank b = { s.bank b with phase := .idle } := by simp [e]
  have mnt : e.mnt = s.mnt := by simp [e]
  have evt : e.evt = s.evt := by simp [e]
  have remap : e.remap b = s.remap b := by simp [e]
  have cleared : e.mnt.clear = some ⟨b, at'⟩ := mnt ▸ clear
  refine ⟨clearLineEnds b ⟨row, n⟩ e, exec_endsBy busy [], ?_, ?_, fun p first => ?_, fun last => ?_,
    fun c other => ?_, by simp [e, keepsAllBut_iff]⟩
  · rw [clearLineEnds_cell, idleBank_cell]
    exact s.cell_writeCell_same _ _ _ _ canonical
  · exact (keepsOtherLines_writeCell s b row n ⟨.data .zero, []⟩).of_array (by simp [e, State.writeData])
  · rw [clearLineEnds_of_some cleared (remap ▸ clearAfter_eq_some_iff.mpr first), ← mnt, ← evt, ← bank]
    exact ⟨rfl, rfl, rfl⟩
  · rw [clearLineEnds_of_none cleared (remap ▸ clearAfter_eq_none_iff.mpr last), ← mnt, latchesOnly, ← evt]
    refine ⟨rfl, rfl, ?_⟩
    simp [finishClear, bank]
  · rw [clearLineEnds_bank_ne b _ e c other, idleBank_bank_ne b _ c other, State.writeData_bank]

/-! ### The end of a DISCARDED operation (R10, R34) -/

theorem State.writeCell_array {s t : State} (same : t.array = s.array) (b : Bank) (r : PhysRow) (n : LineNo)
    (c : LineCell) : (t.writeCell b r n c).array = (s.writeCell b r n c).array := by
  simp [State.writeCell, same]

theorem State.writeRows_array {s t : State} (same : t.array = s.array) (b : Bank) (rows : Rows) (n : LineNo)
    (c : LineCell) : (t.writeRows b rows n c).array = (s.writeRows b rows n c).array := by
  obtain ⟨source, target⟩ := rows
  cases target with
  | none => exact State.writeCell_array same ..
  | some p => exact State.writeCell_array (State.writeCell_array same ..) ..

theorem State.strike_array {s t : State} (same : t.array = s.array) (b : Bank) (r : PhysRow) (n : LineNo)
    (struck : List BitPos) : (t.strike b r n struck).array = (s.strike b r n struck).array := by
  rw [State.strike, State.strike, State.cell_of_array same]
  exact State.writeCell_array same ..

theorem repairLine_array {s t : State} (same : t.array = s.array) (b : Bank) (rows : Rows) (n : LineNo)
    (r : ReadResult) : (repairLine b rows n r t).array = (repairLine b rows n r s).array := by
  unfold repairLine
  split
  · exact same
  · exact State.writeCell_array same ..
  · exact State.writeRows_array same ..
  · exact same

theorem mergeLineEffect_array {s t : State} (same : t.array = s.array) (b : Bank) (rows : Rows) (n : LineNo)
    (mask : BitVec 8) (words : LineWords) (r : ReadResult) :
    (mergeLineEffect b rows n mask words r t).array = (mergeLineEffect b rows n mask words r s).array := by
  unfold mergeLineEffect
  split
  · exact State.writeRows_array same ..
  · exact State.writeRows_array same ..
  · exact State.writeRows_array same ..
  · exact same

theorem copyLineEffect_array {s t : State} (same : t.array = s.array) (b : Bank) (source : PhysRow)
    (target : SpareIdx) (n : LineNo) (r : ReadResult) :
    (copyLineEffect b source target n r t).array = (copyLineEffect b source target n r s).array := by
  simp only [copyLineEffect_eq, sourceMarked]
  split
  · exact State.writeCell_array (State.writeCell_array same ..) ..
  · exact State.writeCell_array same ..

/-- The line effects of an operation follow from the array and the number of its read alone (R10). -/
theorem Operation.effect_array (op : Operation) {s t : State} (same : t.array = s.array)
    (reads : t.lineReads = s.lineReads) (b : Bank) (struck : List BitPos) :
    (op.effect b struck t).array = (op.effect b struck s).array := by
  have read : t.readResult = s.readResult := by
    funext b r n
    rw [State.readResult, State.readResult, reads, State.cell_of_array same]
  have counted : t.countRead.array = s.countRead.array := same
  cases op <;> simp only [Operation.effect, read]
  case readLine => exact repairLine_array counted ..
  case writeLine => exact State.writeRows_array same ..
  case mergeLine => exact mergeLineEffect_array counted ..
  case scrubLine => exact repairLine_array counted ..
  case copyLine => exact State.strike_array (copyLineEffect_array counted ..) ..
  case clearLine => exact State.writeCell_array same ..
  case refresh => simpa using same

@[simp] theorem Operation.result_array (op : Operation) (b : Bank) (struck : List BitPos) (s t : State) :
    (op.result b struck s t).array = t.array := by
  cases op <;> simp [Operation.result]

theorem Operation.ends_deliver_array (op : Operation) (b : Bank) (struck : List BitPos) (s : State) :
    (op.ends b struck .deliver s).array = (op.effect b struck s).array := by
  rw [Operation.ends_deliver]
  cases op.noticeFrom b s <;> simp [sendNotice?]

/-- The section of its bank after an operation's line effects: only REFRESH changes it, by its debt (R20). -/
theorem Operation.effect_bank (op : Operation) (b : Bank) (struck : List BitPos) (s : State) :
    (op.effect b struck s).bank b = { s.bank b with
      debt := if op = .refresh then lowerDebt (s.bank b).debt else (s.bank b).debt } := by
  cases op <;> simp [Operation.effect]

/-- Settles O22. -/
theorem discardedEndHandsNothingOn : Obligations.DiscardedEndHandsNothingOn := by
  intro b s op struck discarded delivered
  have inProgress (d : Disposition) : ((s.setBank b { s.bank b with phase := .busy op d }).bank b).phase = .busy op d := by
    simp
  have bank : (idleBank b (op.effect b struck discarded)).bank b = { s.bank b with
      phase := .idle
      debt := if op = .refresh then lowerDebt (s.bank b).debt else (s.bank b).debt } := by
    simp [op.effect_bank, discarded]
  refine ⟨idleBank b (op.effect b struck discarded), op.ends b struck .deliver delivered,
    exec_endsBy (inProgress .discard) struck, exec_endsBy (inProgress .deliver) struck, ?_, ?_, fun other => ?_,
    fun refresh => ?_, fun c other => ?_, ?_⟩
  · simpa [op.ends_deliver_array] using
      op.effect_array (by simp [discarded, delivered]) (by simp [discarded, delivered]) b struck
  · rw [bank]
  · rw [bank]
    exact if_neg other
  · rw [bank]
    exact congrArg Fin.val (if_pos refresh)
  · rw [idleBank_bank_ne b _ c other, op.effect_bank_ne b struck discarded c other]
    exact s.bank_setBank_ne _ other
  · by_cases refresh : op = .refresh
    · subst refresh
      simp [discarded, Operation.effect, keepsAllBut_iff]
    · exact keepsAllBut_trans (keepsAllBut_mono (s.setBank_keepsAllBut b _) (by simp))
        (keepsAllBut_trans (keepsAllBut_mono (op.effect_keepsAllBut b struck discarded refresh) (by simp))
          (keepsAllBut_mono (idleBank_keepsAllBut b _) (by simp)))

end Sys2Proof.Machine
end

section
/-! The arbiter of a bank: O23, O25, O26. -/

namespace Sys2Proof.Machine

/-! ### The order of the claims (R27, R36) -/

/-- The arbiter's order lists the claims by rising rank. -/
theorem BankSection.claimOrder_sorted (k : BankSection) :
    k.claimOrder.Pairwise fun c d => k.rank c < k.rank d := by
  unfold BankSection.claimOrder BankSection.agedOrder
  by_cases clearing : k.condition = .clearing
  · simp [clearing, BankSection.rank]
  · by_cases patrol : k.patrolAge = 64 <;> by_cases migration : k.migrationAge = 16 <;>
      simp [clearing, patrol, migration, BankSection.rank]

/-- Settles O23. -/
theorem arbiterChoosesTheFirstClaim : Obligations.ArbiterChoosesTheFirstClaim := by
  intro k st
  refine ⟨fun c chosen => ?_, fun none => BankSection.choice_eq_none_iff.mp none⟩
  obtain ⟨waits, considers⟩ := BankSection.of_choice chosen
  refine ⟨waits, considers, fun d before claim => ?_⟩
  obtain ⟨-, first, last, order, refused⟩ := List.find?_eq_some_iff_append.mp chosen
  have sorted := k.claimOrder_sorted
  have member : d ∈ k.claimOrder := BankSection.mem_claimOrder claim.2
  rw [order] at sorted member
  obtain earlier | rfl | later := by simpa using member
  · simpa [claim.1, claim.2] using refused d earlier
  · exact lt_irrefl _ before
  · have := (List.pairwise_cons.mp (List.pairwise_append.mp sorted).2.1).1 d later
    omega

/-! ### Grants (R28 to R31) -/

/-- A waiting migration request ages by 1, up to 16 (R28, log entry 12). -/
theorem ageMigration_val (k : BankSection) : (ageMigration k).val =
    if k.migrationSlot then min 16 (k.migrationAge.val + 1) else k.migrationAge.val := by
  unfold ageMigration
  split
  · split
    · simp
      omega
    · omega
  · rfl

/-- A waiting patrol step ages by 1, up to 64 (R28, log entry 12). -/
theorem agePatrol_val (k : BankSection) : (agePatrol k).val =
    if k.patrolSlot.isSome then min 64 (k.patrolAge.val + 1) else k.patrolAge.val := by
  unfold agePatrol
  split
  · split
    · simp
      omega
    · omega
  · rfl

theorem agePatrol_of_empty {k : BankSection} (empty : k.patrolSlot = none) : agePatrol k = k.patrolAge := by
  simp [agePatrol, empty]

/-- What a granted host request becomes (R29, R68). -/
theorem hostOperation_cases (q : Request) (rows : Rows) (words : LineWords) :
    (q.kind = .read → hostOperation q rows words = .readLine q rows (isSpareRow rows.source)) ∧
    (q.kind = .write 0xFF#8 → hostOperation q rows words = .writeLine q rows rows.fromSpareWrite words) ∧
    (∀ mask, q.kind = .write mask → mask ≠ 0xFF#8 →
      hostOperation q rows words = .mergeLine q rows rows.fromSpareWrite mask words) := by
  refine ⟨fun kind => ?_, fun kind => ?_, fun mask kind partly => ?_⟩ <;> rw [hostOperation, kind]
  · rfl
  · exact if_pos rfl
  · exact if_neg partly

theorem grantHost_keepsAllBut (b : Bank) (q : Request) (s : State) :
    keepsAllBut [.bsq] s (grantHost b q s) := s.setBank_keepsAllBut b _

theorem runCopy_of_copying {s : State} {b : Bank} {l : LogicalRow} {v : CopyRequest}
    (copying : s.mig.state = .copying b l v) : runCopy s = setEngine (.copying b l (.running false false)) s := by
  simp [runCopy, copying]

/-- The grant of a copy with the entry that it copies (R30, R105). -/
theorem grantCopy_of_pending {b : Bank} {s : State} {e : RemapEntry} (pending : (s.remap b).pending? = some e) :
    grantCopy b s = runCopy (s.setBank b { s.bank b with
      phase := .busy (copyOperation e) .deliver
      migrationSlot := false
      migrationAge := 0
      patrolAge := agePatrol (s.bank b) }) := by
  simp [grantCopy, pending]

/-- Settles O25. -/
theorem hostCopyAndStepGrants : Obligations.HostCopyAndStepGrants := by
  intro b s idle
  refine ⟨fun q chosen slot => ?_, fun l c x n k o v chosen engine pending => ?_,
    fun p chosen slot inUse step => ?_⟩
  · have served : arbitrate b s = grantHost b q s := by
      rw [arbitrate_of_choice idle chosen (staleChosen_of_ne (by simp [chosen]))]
      simp [grant, slot]
    have bank := grantHost_section b q s b
    rw [if_pos rfl] at bank
    obtain ⟨read, write, merge⟩ := hostOperation_cases q ((s.remap b).translate q.row q.line)
      (s.buf.line q.buffer).words
    rw [served]
    refine ⟨_, ?_, read, write, merge, ?_, ?_, grantHost_bank_ne b q s, grantHost_keepsAllBut b q s⟩
    · rw [bank]
    · rw [bank]
      exact ageMigration_val _
    · rw [bank]
      exact agePatrol_val _
  · have served : arbitrate b s = grantCopy b s :=
      arbitrate_of_choice idle chosen (staleChosen_of_ne (by simp [chosen]))
    have bank := grantCopy_section b s b
    simp only [pending, if_true] at bank
    rw [served]
    refine ⟨?_, ?_, ?_, ?_, ?_, grantCopy_bank_ne b s, ?_⟩
    · rintro i rfl
      rw [bank]
      rfl
    · rintro rfl
      rw [bank]
      rfl
    · rw [bank]
    · rw [bank]
      exact agePatrol_val _
    · rw [grantCopy_of_pending pending, runCopy_of_copying (by simpa using engine)]
      simp
    · simp [keepsAllBut_iff]
  · have served : arbitrate b s = grantStep b ⟨p.row, p.line⟩ s := by
      rw [arbitrate_of_choice idle chosen (by simp [staleChosen, slot, inUse])]
      simp [grant, slot]
    have bank := grantStep_section b ⟨p.row, p.line⟩ s b
    rw [if_pos rfl] at bank
    rw [served]
    refine ⟨_, _, bank, ?_, rfl, rfl, ?_, grantStep_bank_ne b _ s, by simp [keepsAllBut_iff]⟩
    · exact scrubRows_source ..
    · rw [grantStep_ptl, step]
      rfl

/-! ### What a grant leaves (R26, R33) -/

/-- A granted claim makes its bank BUSY; for a copy the bank must hold the PENDING entry (R28 to R32). -/
theorem grant_phase_ne_idle {b : Bank} {s : State} {c : Claim} (waits : (s.bank b).waits c = true)
    (copies : (s.bank b).migrationSlot = true → (s.remap b).pending? ≠ none) :
    ((grant b c s).bank b).phase ≠ .idle := by
  cases c with
  | urgentRefresh => simp [grant]
  | refresh => simp [grant]
  | clear =>
    obtain ⟨p, slot⟩ := Option.isSome_iff_exists.mp (by simpa [BankSection.waits] using waits)
    simp [grant, slot]
  | host =>
    obtain ⟨q, slot⟩ := Option.isSome_iff_exists.mp (by simpa [BankSection.waits] using waits)
    simp [grant, slot, grantHost_section]
  | migration =>
    obtain ⟨e, pending⟩ := Option.ne_none_iff_exists'.mp (copies waits)
    simp [grant, grantCopy_section, pending]
  | patrol =>
    obtain ⟨p, slot⟩ := Option.isSome_iff_exists.mp (by simpa [BankSection.waits] using waits)
    simp [grant, slot, grantStep_section]

theorem advanceCursor_interval (p : Position) (s : State) :
    (advanceCursor p s).ptl.interval = s.ptl.interval := by
  unfold advanceCursor
  split <;> simp [passEnd]

/-- A grant other than that of the patrol slot leaves PTL. -/
theorem grant_ptl {c : Claim} (other : c ≠ .patrol) (b : Bank) (s : State) : (grant b c s).ptl = s.ptl := by
  cases c with
  | urgentRefresh => rfl
  | refresh => rfl
  | clear => cases slot : (s.bank b).clearSlot <;> simp [grant, slot]
  | host => cases slot : (s.bank b).hostSlot <;> simp [grant, slot]
  | migration => simp [grant]
  | patrol => exact absurd rfl other

/-- The patrol slot of a bank without a step stays as it stands at every grant (R28). -/
theorem grant_patrol {b : Bank} {s : State} (empty : (s.bank b).patrolSlot = none) (c : Claim) :
    ((grant b c s).bank b).patrolSlot = none ∧ ((grant b c s).bank b).patrolAge = (s.bank b).patrolAge := by
  have age := agePatrol_of_empty empty
  cases c with
  | urgentRefresh => simp [grant, empty]
  | refresh => simp [grant, empty]
  | clear => cases slot : (s.bank b).clearSlot <;> simp [grant, slot, empty]
  | host => cases slot : (s.bank b).hostSlot <;> simp [grant, slot, grantHost_section, empty, age]
  | migration => cases pending : (s.remap b).pending? <;> simp [grant, grantCopy_section, pending, empty, age]
  | patrol => simp [grant, empty]

/-- A bank whose patrol slot is empty makes no choice of a step. -/
theorem choice_ne_patrol {k : BankSection} (empty : k.patrolSlot = none) (st : ControllerState) :
    k.choice st ≠ some .patrol := fun chosen => by
  simpa [BankSection.waits, empty] using (BankSection.of_choice chosen).1

/-- The bank serves one claim or has none to grant (R26). -/
theorem serve_idle_or {b : Bank} {s : State}
    (copies : (s.bank b).migrationSlot = true → (s.remap b).pending? ≠ none) :
    ((serve b s).bank b).phase ≠ .idle ∨ ((serve b s).bank b).choice (serve b s).hpt.state = none := by
  unfold serve
  cases chosen : (s.bank b).choice s.hpt.state with
  | none => exact .inr chosen
  | some c => exact .inl (grant_phase_ne_idle (BankSection.of_choice chosen).1 copies)

/-- What the bank serves where its patrol slot is empty leaves PTL, the slot and its age (R28). -/
theorem serve_of_no_step {b : Bank} {s : State} (empty : (s.bank b).patrolSlot = none) :
    (serve b s).ptl = s.ptl ∧ ((serve b s).bank b).patrolSlot = none ∧
    ((serve b s).bank b).patrolAge = (s.bank b).patrolAge := by
  unfold serve
  cases chosen : (s.bank b).choice s.hpt.state with
  | none => exact ⟨rfl, empty, rfl⟩
  | some c =>
    refine ⟨grant_ptl ?_ b s, grant_patrol empty c⟩
    rintro rfl
    exact choice_ne_patrol empty _ chosen

theorem arbitrate_of_stale {b : Bank} {s : State} (idle : (s.bank b).phase = .idle) (stale : staleChosen b s = true) :
    arbitrate b s = serve b (discardStep b s) := by
  simp [arbitrate, idle, stale]

theorem arbitrate_of_not_stale {b : Bank} {s : State} (idle : (s.bank b).phase = .idle)
    (fresh : staleChosen b s = false) : arbitrate b s = serve b s := by
  simp [arbitrate, idle, fresh]

/-- An IDLE bank that its arbiter has served is no longer IDLE, or no claim of it could be granted (R26). -/
theorem arbitrate_idle_or {b : Bank} {s : State}
    (copies : (s.bank b).migrationSlot = true → ∃ e ∈ (s.remap b).entries, e.isPending = true)
    (idle : (s.bank b).phase = .idle) :
    ((arbitrate b s).bank b).phase ≠ .idle ∨
      ((arbitrate b s).bank b).choice (arbitrate b s).hpt.state = none := by
  have pends (moves : (s.bank b).migrationSlot = true) : (s.remap b).pending? ≠ none := fun none => by
    obtain ⟨e, member, pending⟩ := copies moves
    simp [BankRemap.pending?_eq_none_iff.mp none e member] at pending
  cases stale : staleChosen b s with
  | true =>
    rw [arbitrate_of_stale idle stale]
    exact serve_idle_or fun moves => by simpa using pends (by simpa using moves)
  | false =>
    rw [arbitrate_of_not_stale idle stale]
    exact serve_idle_or pends

/-! ### Retention entry at a bank (R38) -/

theorem mayRetain_iff {b : Bank} {s : State} : mayRetain b s = true ↔
    s.hpt.state = .enteringRetention ∧ (s.bank b).phase = .idle ∧ (s.bank b).hostSlot = none := by
  simp [mayRetain, and_assoc]

/-- The bank that enters RETAINED is the last one exactly if all others are RETAINED. -/
theorem retainBank_of_last {b : Bank} {s : State} (last : ∀ c : Bank, c ≠ b → (s.bank c).phase = .retained) :
    retainBank b s = enterRetained (s.setBank b { s.bank b with phase := .retained, debt := 0 }) := by
  refine if_pos (allRetained_iff.mpr fun c => ?_)
  by_cases same : c = b
  · simp [same]
  · rw [State.bank_setBank_ne _ _ same, last c same]

theorem retainBank_of_not_last {b : Bank} {s : State} (other : ∃ c : Bank, c ≠ b ∧ (s.bank c).phase ≠ .retained) :
    retainBank b s = s.setBank b { s.bank b with phase := .retained, debt := 0 } := by
  obtain ⟨c, apart, awake⟩ := other
  refine if_neg fun all => awake ?_
  rw [← allRetained_iff.mp all c, State.bank_setBank_ne _ _ apart]

/-- Settles O26. -/
theorem idleBankArbitratesOrRetires : Obligations.IdleBankArbitratesOrRetires := by
  refine ⟨⟨fun b s busy => arbitrate_of_not_idle busy, fun b s copies idle => arbitrate_idle_or copies idle,
    fun b s p idle chosen slot unused step => ?_⟩, fun b s => ⟨fun enters idle empty => ?_, fun other => ?_⟩⟩
  · rw [arbitrate_of_stale idle (by simp [staleChosen, chosen, slot, unused])]
    obtain ⟨ptl, served, age⟩ := serve_of_no_step (b := b) (s := discardStep b s) (by simp)
    let u := s.setBank b { s.bank b with patrolSlot := none, patrolAge := 0 }
    have discarded : discardStep b s = advanceCursor p (forgetStep u) := by
      simp [discardStep, stepEnds, u, step]
    have others (c : Bank) (apart : c ≠ b) : (serve b (discardStep b s)).bank c = s.bank c := by
      rw [serve_bank_ne b _ c apart, discardStep_bank_ne b s c apart]
    have frt : (serve b (discardStep b s)).frt = (discardStep b s).frt := by simp
    have evt : (serve b (discardStep b s)).evt = (discardStep b s).evt := by simp
    rw [ptl, frt, latchesOnly, evt, discarded]
    refine ⟨discarded ▸ served, by simpa [discarded, u] using age, by simp [forgetStep], fun p' next => ?_,
      fun last => ?_, by simp [advanceCursor_interval, forgetStep, u], discarded ▸ others, by simp [keepsAllBut_iff, u]⟩
    · rw [advanceCursor, Position.next_eq_some_iff.mpr next]
      exact ⟨rfl, rfl, rfl, rfl⟩
    · rw [advanceCursor, Position.next_eq_none_iff.mpr last]
      exact ⟨rfl, rfl, rfl, rfl⟩
  · rw [settleBank, if_pos (mayRetain_iff.mpr ⟨enters, idle, empty⟩)]
    refine ⟨by simp [retainBank_section], retainBank_bank_ne b s, fun last => ?_, fun awake => ?_,
      by simp [keepsAllBut_iff]⟩
    · rw [retainBank_of_last last]
      exact ⟨rfl, rfl, rfl, rfl⟩
    · rw [retainBank_of_not_last awake]
      exact s.setBank_keepsAllBut b _
  · rw [settleBank, if_neg]
    rw [mayRetain_iff]
    tauto

end Sys2Proof.Machine
end

section
/-! What is placed in the banks' slots, and the two timers: O13, O14, O27, O29. -/

namespace Sys2Proof.Machine

/-! ### DISPATCH (R62) -/

/-- What the four conditions of R62 say. -/
theorem eligible_iff {s : State} {h : HeldRequest} : eligible s h = true ↔
    h.state = .waiting ∧ (∀ g ∈ s.req.held, g.state = .inFlight → g.request.bank ≠ h.request.bank) ∧
    (s.bank h.request.bank).condition ≠ .clearing ∧ s.hpt.state = .ready ∧ s.req.inFlight + s.cpl.length < 8 := by
  simp [eligible, RequestQueue.bankInFlight, and_assoc]

/-- A launch by a tag that one held request carries makes that request IN_FLIGHT in its place (R62). -/
theorem launch_of_split {r : RequestQueue} {older younger : List HeldRequest} {h : HeldRequest}
    (held : r.held = older ++ h :: younger) (tags : (r.held.map fun g => g.request.tag).Nodup) :
    r.launch h.request.tag = { r with held := older ++ { h with state := .inFlight } :: younger } := by
  have others (g : HeldRequest) (side : g ∈ older ∨ g ∈ younger) : g.request.tag ≠ h.request.tag := by
    rw [held, List.map_append, List.map_cons, List.nodup_append] at tags
    obtain ⟨-, tail, apart⟩ := tags
    obtain earlier | later := side
    · exact apart _ (List.mem_map_of_mem earlier) _ (by simp)
    · exact fun same => (List.nodup_cons.mp tail).1 (same ▸ List.mem_map_of_mem later)
  have kept (l : List HeldRequest) (side : ∀ g ∈ l, g ∈ older ∨ g ∈ younger) :
      (l.map fun g => if g.request.tag = h.request.tag then { g with state := .inFlight } else g) = l :=
    (List.map_congr_left fun g hg => if_neg (others g (side g hg))).trans (List.map_id l)
  simp only [RequestQueue.launch, held, List.map_append, List.map_cons, if_pos,
    kept older fun g hg => .inl hg, kept younger fun g hg => .inr hg]

/-- Settles O27. -/
theorem dispatchTakesTheOldestEligible : Obligations.DispatchTakesTheOldestEligible := by
  refine ⟨fun s refused => next_of_after ?_, fun s older younger q inv held passed free formatted ready room => ?_⟩
  · have none : oldestEligible? s = none := List.find?_eq_none.mpr fun h member => by simp [refused h member]
    simp [after, none]
  · have takes : eligible s ⟨q, .waiting⟩ = true :=
      eligible_iff.mpr ⟨rfl, free, by simp [formatted], ready, room⟩
    refine ⟨requestPlaced q s, ?_, ?_, requestPlaced_bank q s, fun c other => ?_, by simp [keepsAllBut_iff]⟩
    · rw [exec_dispatch_of_oldest (oldestEligible?_of_held held passed takes),
        dispatchRequest_of_not_unformatted (by simp [formatted])]
    · rw [← launch_of_split held inv.tags]
      simp [requestPlaced]
    · rw [requestPlaced_section, if_neg other]

/-! ### The placements (R105, R176) -/

theorem clearInProgress_iff {k : BankSection} :
    clearInProgress k = true ↔ ∃ row n, k.phase = .busy (.clearLine row n) .deliver := by
  unfold clearInProgress
  split
  · rename_i row n phase
    simp [phase]
  · rename_i other
    simpa using other

/-- Settles O29. -/
theorem placementsFillTheirSlots : Obligations.PlacementsFillTheirSlots := by
  refine ⟨fun s b l engine => ?_, fun s rests => next_of_after ?_,
    fun s c p clear clearing host slot line first => ?_, fun s blocked => next_of_after ?_⟩
  · have placed : after .copyRequestPlace s = placeCopy b l s := by simp [after, engine]
    exact ⟨copyPlaced b l s, next_of_after placed, rfl, by simp [copyPlaced_section],
      fun c other => by rw [copyPlaced_section, if_neg other], by simp [keepsAllBut_iff]⟩
  · rcases engine : s.mig.state with _ | ⟨b, l, _ | _ | _⟩ | _
    case copying.absent => exact absurd engine (rests b l)
    all_goals simp [after, engine]
  · have placement : clearPlacement? s = some (c.bank, p) := by
      have rests : clearInProgress (s.bank c.bank) = false := by
        rw [Bool.eq_false_iff, ne_eq, clearInProgress_iff]
        rintro ⟨row, n, phase⟩
        exact line row n phase
      simp [clearPlacement?, clear, clearing, host, slot, rests, clearAt_eq_some_iff.mpr first]
    have placed : after .clearLinePlace s = placeClear c.bank p s := by simp [after, placement]
    exact ⟨clearPlaced c.bank p s, next_of_after placed, by simp [clearPlaced_section],
      fun d other => by rw [clearPlaced_section, if_neg other], by simp [keepsAllBut_iff]⟩
  · have none : clearPlacement? s = none := by
      unfold clearPlacement?
      split
      · rename_i c clear
        refine if_neg fun ⟨clearing, host, slot, rests⟩ => ?_
        obtain h | h | h | h := blocked c clear
        · exact h clearing
        · exact h host
        · exact h slot
        · simp [clearInProgress_iff.mpr h] at rests
      · rfl
    simp [after, none]

/-! ### The step timer (R140, R141) -/

theorem stepPlaced_bank_ne (p : Position) (s : State) : keepsOtherBanks p.bank s (stepPlaced p s) := fun c other => by
  rw [stepPlaced_section, if_neg other]

/-- What the arbiter makes of a step just placed in a row in use (R26, R142). -/
theorem stepGranted_stepPlaced {p : Position} {s : State} (inUse : (s.remap p.bank).inUse p.row = true) :
    stepGranted p (stepPlaced p s) := by
  have slot : ((stepPlaced p s).bank p.bank).patrolSlot = some ⟨p.row, p.line⟩ := by simp [stepPlaced_section]
  have step : (stepPlaced p s).ptl.step = .waiting p := by simp [stepPlaced_ptl]
  have fresh : staleChosen p.bank (stepPlaced p s) = false := by simp [staleChosen, slot, inUse]
  unfold stepGranted
  split
  · rename_i granted
    obtain ⟨idle, chosen⟩ := granted
    rw [arbitrate_of_choice idle chosen fresh]
    simp [grant, slot, grantStep_ptl, PatrolStep.run]
  · rename_i waits
    by_cases idle : ((stepPlaced p s).bank p.bank).phase = .idle
    · rw [arbitrate_of_not_stale idle fresh, serve]
      cases chosen : ((stepPlaced p s).bank p.bank).choice (stepPlaced p s).hpt.state with
      | none => rfl
      | some c =>
        refine grant_ptl ?_ _ _
        rintro rfl
        exact waits ⟨idle, chosen⟩
    · rw [arbitrate_of_not_idle idle]

theorem patrolled_inUse {s : State} {row : PhysRow} {b : Bank} (stops : patrolled s row b = true) :
    (s.remap b).inUse row = true := by
  simp only [patrolled, Bool.and_eq_true] at stops
  exact stops.2

theorem searchAhead_of_first {s : State} {p : Position} (first : firstPatrolled s s.ptl.cursor.number p) :
    searchAhead s = some p := by
  cases found : searchAhead s with
  | none => simpa [first.2.1] using searchAhead_eq_none found p first.1
  | some q => rw [firstPatrolled_unique (searchAhead_eq_some found) first]

theorem searchAgain_of_first {s : State} {p : Position} (first : firstPatrolled s 0 p) :
    searchAgain s = some p := by
  cases found : searchAgain s with
  | none => simpa [first.2.1] using searchAgain_eq_none found p
  | some q => rw [firstPatrolled_unique (searchAgain_eq_some found) first]

/-- Settles O14. -/
theorem stepExpiryPlacesTheNextStep : Obligations.StepExpiryPlacesTheNextStep := by
  have expires {s : State} (due : stepDue s = true) : exec .stepTimerExpiry s = .next (issueStep s) :=
    next_of_after (if_pos due)
  refine ⟨fun s idle => next_of_after (if_neg (by simp [idle])), fun s p due first => ?_,
    fun s p due first passed => ?_⟩
  · have issued : issueStep s = arbitrate p.bank (stepPlaced p s) := by
      simp only [issueStep, searchAhead_of_first first]
      rfl
    refine ⟨stepPlaced p s, (expires due).trans (congrArg _ issued), by simp [stepPlaced], by simp [stepPlaced_section],
      stepGranted_stepPlaced (patrolled_inUse first.2.1), stepPlaced_bank_ne p s, by simp [keepsAllBut_iff]⟩
  · have none : searchAhead s = none := by
      cases found : searchAhead s with
      | none => rfl
      | some q =>
        have ahead := searchAhead_eq_some found
        simpa [ahead.2.1] using passed q ahead.1
    have issued : issueStep s = arbitrate p.bank (stepPlaced p (passEnd s)) := by
      simp only [issueStep, none, searchAgain_of_first first]
      rfl
    refine ⟨stepPlaced p (passEnd s), (expires due).trans (congrArg _ issued), by simp [stepPlaced, passEnd],
      by simp [stepPlaced, passEnd], ?_, by simp [stepPlaced_section],
      stepGranted_stepPlaced (by simpa using patrolled_inUse first.2.1), fun c other => ?_, by simp [keepsAllBut_iff]⟩
    · have evt : (stepPlaced p (passEnd s)).evt = (passEnd s).evt := by simp
      exact evt
    · rw [stepPlaced_bank_ne p _ c other, passEnd_bank]

/-! ### The refresh timer (R24) -/

/-- A grant leaves its bank's debt and condition. -/
theorem grant_debt (b : Bank) (c : Claim) (s : State) : ((grant b c s).bank b).debt = (s.bank b).debt ∧
    ((grant b c s).bank b).condition = (s.bank b).condition := by
  cases c with
  | urgentRefresh => simp [grant]
  | refresh => simp [grant]
  | clear => cases slot : (s.bank b).clearSlot <;> simp [grant, slot]
  | host => cases slot : (s.bank b).hostSlot <;> simp [grant, slot, grantHost_section]
  | migration => cases pending : (s.remap b).pending? <;> simp [grant, grantCopy_section, pending]
  | patrol => cases slot : (s.bank b).patrolSlot <;> simp [grant, slot, grantStep_section]

theorem serve_debt (b : Bank) (s : State) : ((serve b s).bank b).debt = (s.bank b).debt ∧
    ((serve b s).bank b).condition = (s.bank b).condition := by
  unfold serve
  split
  · exact grant_debt ..
  · exact ⟨rfl, rfl⟩

/-- The arbiter leaves its bank's debt and condition. -/
theorem arbitrate_debt (b : Bank) (s : State) : ((arbitrate b s).bank b).debt = (s.bank b).debt ∧
    ((arbitrate b s).bank b).condition = (s.bank b).condition := by
  unfold arbitrate
  split
  · split
    · simp [serve_debt]
    · exact serve_debt b s
  · exact ⟨rfl, rfl⟩

/-- The arbiters of a list of banks choose, in its order. -/
def arbitrateAll (l : List Bank) (s : State) : State := l.foldl (fun t b => arbitrate b t) s

theorem refreshExpiry_eq (s : State) : refreshExpiry s = arbitrateAll allBanks (s.mapBanks chargeRefresh) := rfl

theorem arbitrateAll_keepsAllBut (l : List Bank) (s : State) :
    keepsAllBut [.bsq, .mig, .ptl, .frt, .evt] s (arbitrateAll l s) := by
  induction l generalizing s with
  | nil => exact keepsAllBut_refl _ s
  | cons b l ih => exact keepsAllBut_trans (by simp [keepsAllBut_iff]) (ih (arbitrate b s))

theorem arbitrateAll_bank {l : List Bank} {b : Bank} (absent : b ∉ l) (s : State) :
    (arbitrateAll l s).bank b = s.bank b := by
  induction l generalizing s with
  | nil => rfl
  | cons c l ih =>
    obtain ⟨other, absent⟩ := not_or.mp (List.mem_cons.not.mp absent)
    exact (ih absent (arbitrate c s)).trans (arbitrate_bank_ne c s b other)

/-- What one bank holds after all arbiters have chosen is what its own choice gave it (R26). -/
theorem arbitrateAll_bank_of_mem {l : List Bank} (nodup : l.Nodup) {b : Bank} (member : b ∈ l) (s : State) :
    ∃ u, u.bank b = s.bank b ∧ u.hpt = s.hpt ∧ u.rmp = s.rmp ∧
      (arbitrateAll l s).bank b = (arbitrate b u).bank b := by
  obtain ⟨before, later, rfl⟩ := List.append_of_mem member
  obtain ⟨-, tail, apart⟩ := List.nodup_append.mp nodup
  have kept := arbitrateAll_keepsAllBut before s
  refine ⟨arbitrateAll before s, arbitrateAll_bank (fun there => apart b there b (by simp) rfl) s,
    kept .hpt (by simp), kept .rmp (by simp), ?_⟩
  have turns : arbitrateAll (before ++ b :: later) s =
      arbitrateAll later (arbitrate b (arbitrateAll before s)) := by
    simp [arbitrateAll, List.foldl_append]
  rw [turns, arbitrateAll_bank (List.nodup_cons.mp tail).1]

theorem raiseDebt_val (d : Fin 9) : (raiseDebt d).val = min 8 (d.val + 1) := by
  unfold raiseDebt
  split
  · simp
    omega
  · omega

/-- A bank that owes refresh considers it wherever refresh is grantable (R26). -/
theorem choice_ne_none_of_debt {k : BankSection} {st : ControllerState} (owes : 0 < k.debt.val)
    (grantable : st = .ready ∨ st = .heldInReset ∨ st = .restarting) : k.choice st ≠ none := fun none => by
  refine BankSection.choice_eq_none_iff.mp none .refresh ⟨by simpa [BankSection.waits] using owes, ?_⟩
  obtain rfl | rfl | rfl := grantable
  · cases condition : k.condition <;> simp [BankSection.considers, condition, Condition.grants]
  · rfl
  · rfl

/-- Settles O13. -/
theorem refreshExpiryRaisesTheDebts : Obligations.RefreshExpiryRaisesTheDebts := by
  refine ⟨fun s stopped => next_of_after (if_neg (by simp [stopped])), fun s running =>
    ⟨refreshExpiry s, next_of_after (if_pos running), ?_, fun b => ?_⟩⟩
  · exact keepsAllBut_trans (by simp [keepsAllBut_iff]) (arbitrateAll_keepsAllBut allBanks _)
  · obtain ⟨u, bank, hpt, rmp, served⟩ := arbitrateAll_bank_of_mem (l := allBanks) (by decide) (mem_allBanks b)
      (s.mapBanks chargeRefresh)
    rw [State.bank_mapBanks] at bank
    rw [refreshExpiry_eq, served]
    have remap : u.remap b = s.remap b := State.remap_congr (rmp.trans (by simp)) b
    obtain ⟨debt, condition⟩ := arbitrate_debt b u
    refine ⟨fun sleeps => ?_, fun awake => ?_, fun op d busy => ?_, fun idle grantable copies => ?_⟩
    · have stays : u.bank b = s.bank b := by rw [bank, chargeRefresh, if_pos sleeps]
      rw [arbitrate_of_not_idle (by simp [stays, sleeps]), stays]
    · have charged : u.bank b = { s.bank b with debt := raiseDebt (s.bank b).debt } := by
        rw [bank, chargeRefresh, if_neg awake]
      rw [debt, condition, charged]
      exact ⟨raiseDebt_val _, rfl⟩
    · have charged : u.bank b = { s.bank b with debt := raiseDebt (s.bank b).debt } := by
        rw [bank, chargeRefresh, if_neg (by simp [busy])]
      rw [arbitrate_of_not_idle (by simp [charged, busy]), charged]
    · have charged : u.bank b = { s.bank b with debt := raiseDebt (s.bank b).debt } := by
        rw [bank, chargeRefresh, if_neg (by simp [idle])]
      have owes : 0 < ((arbitrate b u).bank b).debt.val := by
        rw [debt, charged, raiseDebt_val]
        omega
      refine (arbitrate_idle_or (fun moves => ?_) (by simp [charged, idle])).resolve_right
        (choice_ne_none_of_debt owes (by simpa [hpt] using grantable))
      rw [remap]
      exact copies (by simpa [charged] using moves)

end Sys2Proof.Machine
end

section
/-! Reads and fault records: O12, O49, O50, O51. -/

namespace Sys2Proof.Machine

/-! ### The outcome of a read (R4, R5; Tables 1-3 and 1-4) -/

/-- From three changed bits on, the positions of the changed bits decide the outcome (log entry 4). -/
theorem readCell_of_many {c : LineCell} {w : LineWords} (form : c.form = .data w) (many : 3 ≤ c.changes.length)
    (n : Nat) : readCell n c = readManyBits n w c.changes := by
  rw [readCell, form]
  match changes : c.changes, many with
  | _ :: _ :: _ :: _, _ => rfl

theorem readManyBits_outcome (n : Nat) (w : LineWords) (changes : List BitPos) :
    ((readManyBits n w changes).outcome = .clean ↔ Config.manyBitOutcome (changesAt changes) = .clean) ∧
    ((readManyBits n w changes).outcome = .uncorrectable ↔
      Config.manyBitOutcome (changesAt changes) = .uncorrectable) := by
  unfold readManyBits
  cases Config.manyBitOutcome (changesAt changes) <;> simp

/-- The words of a read from three changed bits on: as stored, or with one wrongly corrected bit (R5). -/
theorem readManyBits_words (n : Nat) (w : LineWords) (changes : List BitPos) :
    (readManyBits n w changes).outcome ≠ .poisoned ∧
    ((readManyBits n w changes).outcome = .clean → (readManyBits n w changes).words = storedWords w changes) ∧
    ((readManyBits n w changes).outcome = .uncorrectable →
      (readManyBits n w changes).words = storedWords w changes) ∧
    (∀ i, (readManyBits n w changes).outcome = .corrected i →
      ∃ j, (readManyBits n w changes).words = miscorrect (storedWords w changes) i j) := by
  unfold readManyBits
  cases Config.manyBitOutcome (changesAt changes) with
  | clean => simp
  | uncorrectable => simp
  | corrected =>
    refine ⟨nofun, nofun, nofun, fun i read => ⟨(Config.miscorrection n (changesAt changes)).2, ?_⟩⟩
    cases read
    rfl

theorem changesAt_perm {l k : List BitPos} (perm : l.Perm k) : changesAt l = changesAt k :=
  funext fun p => perm.count_eq p

theorem readUnknownLine_poisoned (n : Nat) (poisoned : (readUnknownLine n).outcome = .poisoned) :
    (readUnknownLine n).words = .zero := by
  unfold readUnknownLine at poisoned ⊢
  cases outcome : Config.unknownOutcome n <;> simp_all

/-- A read that answers POISONED delivers zero words (R5). -/
theorem readCell_poisoned {n : Nat} {c : LineCell} (poisoned : (readCell n c).outcome = .poisoned) :
    (readCell n c).words = .zero := by
  obtain ⟨form, changes⟩ := c
  cases form with
  | data w =>
    match changes, poisoned with
    | p :: q :: r :: tail, poisoned => exact absurd poisoned (readManyBits_words n w (p :: q :: r :: tail)).1
  | poison =>
    simp only [readCell, readPoisonLine] at poisoned ⊢
    split at poisoned
    · rename_i few
      rw [if_pos few]
    · cases poisoned
  | unknown => exact readUnknownLine_poisoned n poisoned

/-- Settles O12. -/
theorem readOutcomeFollowsTheTables : Obligations.ReadOutcomeFollowsTheTables := by
  intro n c
  refine ⟨fun w form none => ?_, fun w x form one => ?_, fun w form two => ?_, fun w form many => ?_,
    fun form few => ?_, fun form many => ?_, readCell_poisoned⟩
  · simp [readCell, form, none, readDataLine]
  · refine ⟨correctedIndex x, by simp [readCell, form, one, readDataLine], ?_, ?_⟩
    · rintro k j rfl
      rfl
    · rintro rfl
      rfl
  · obtain ⟨p, q, changes⟩ := List.length_eq_two.mp two
    simp [readCell, form, changes, readDataLine]
  · have read := readCell_of_many form many
    obtain ⟨unpoisoned, clean, uncorrectable, corrected⟩ := readManyBits_words n w c.changes
    rw [read]
    refine ⟨unpoisoned, clean, uncorrectable, corrected, fun m d v form' perm => ?_⟩
    rw [readCell_of_many form' (perm.length_eq ▸ many)]
    obtain ⟨isClean, isUncorrectable⟩ := readManyBits_outcome n w c.changes
    obtain ⟨isClean', isUncorrectable'⟩ := readManyBits_outcome m v d.changes
    rw [isClean, isUncorrectable, isClean', isUncorrectable', changesAt_perm perm]
    exact ⟨Iff.rfl, Iff.rfl⟩
  · rw [readCell, form]
    exact if_pos few
  · rw [readCell, form]
    exact congrArg ReadResult.outcome (if_neg (by omega))

/-! ### The arrival of a notice (R124 to R128) -/

theorem noticeTaken_iff {n : Notice} {s : State} : noticeTaken n s = true ↔
    (s.bank n.bank).condition ≠ .clearing ∧ (s.remap n.bank).inUse n.row = true := by
  simp [noticeTaken]

theorem receiveNotice_of_dropped {n : Notice} {s : State}
    (dropped : (s.bank n.bank).condition = .clearing ∨ (s.remap n.bank).inUse n.row = false) :
    receiveNotice n s = s := by
  rw [receiveNotice, if_neg]
  rw [noticeTaken_iff]
  rintro ⟨live, used⟩
  exact dropped.elim live (by simp [used])

section Taken

variable {n : Notice} {s : State} (live : (s.bank n.bank).condition ≠ .clearing)
  (used : (s.remap n.bank).inUse n.row = true)
include live used

/-- A notice that has a place is counted there (R125). -/
theorem receiveNotice_of_place {i : Fin 32} {r : FaultRecord}
    (place : s.frt.place? n s.ptl.pass ((s.remap n.bank).isSource n.row) = some (i, r)) :
    receiveNotice n s = s.setFrt (s.frt.countIn i r n s.ptl.pass s.hpt.threshold) := by
  simp [receiveNotice, noticeTaken_iff.mpr ⟨live, used⟩, place]

/-- A notice without a place latches RECORD_TABLE_FULL (R127). -/
theorem receiveNotice_of_no_place
    (place : s.frt.place? n s.ptl.pass ((s.remap n.bank).isSource n.row) = none) :
    receiveNotice n s = s.latch .recordTableFull := by
  simp [receiveNotice, noticeTaken_iff.mpr ⟨live, used⟩, place]

end Taken

theorem countUp_val (c : Fin 256) : (countUp c).val = min 255 (c.val + 1) := by
  unfold countUp
  split
  · simp
    omega
  · omega

/-- The queue after a notice was counted: a promoted record joins the tail (R128). -/
theorem FaultTable.queue_countIn (f : FaultTable) (i : Fin 32) (r : FaultRecord) (n : Notice) (now : BitVec 16)
    (threshold : Fin 16) : (f.countIn i r n now threshold).queue =
      if (r.count n now).promoted n threshold then f.queue ++ [i] else f.queue := by
  unfold FaultTable.countIn
  dsimp only
  split <;> rfl

/-- The record that a notice was counted in, promoted where it earned it (R125, R128). -/
def FaultRecord.judged (r : FaultRecord) (n : Notice) (now : BitVec 16) (threshold : Fin 16) : FaultRecord :=
  { r.count n now with state := if (r.count n now).promoted n threshold then .candidate else r.state }

/-- What a counted record has earned (R128). -/
theorem promoted_count_iff {r : FaultRecord} {n : Notice} {now : BitVec 16} {threshold : Fin 16} :
    (r.count n now).promoted n threshold = true ↔ r.state = .watch ∧ (n.uncorrectable = true ∨
      (0 < threshold.val ∧ threshold.val ≤ (r.judged n now threshold).correctable.val)) := by
  simp [FaultRecord.promoted, FaultRecord.judged, Fin.pos_iff_ne_zero]

theorem correctable_judged (r : FaultRecord) (n : Notice) (now : BitVec 16) (threshold : Fin 16) :
    (r.judged n now threshold).correctable.val =
      if n.uncorrectable then r.correctable.val else min 255 (r.correctable.val + 1) := by
  have counted : (r.judged n now threshold).correctable =
    if n.uncorrectable then r.correctable else countUp r.correctable := rfl
  rw [counted]
  split
  · rfl
  · exact countUp_val _

theorem uncorrectable_judged (r : FaultRecord) (n : Notice) (now : BitVec 16) (threshold : Fin 16) :
    (r.judged n now threshold).uncorrectable.val =
      if n.uncorrectable then min 255 (r.uncorrectable.val + 1) else r.uncorrectable.val := by
  have counted : (r.judged n now threshold).uncorrectable =
    if n.uncorrectable then countUp r.uncorrectable else r.uncorrectable := rfl
  rw [counted]
  split
  · exact countUp_val _
  · rfl

/-- Settles O49. -/
theorem noticeIsCounted : Obligations.NoticeIsCounted := by
  refine fun n s => ⟨receiveNotice_of_dropped, fun live used i r found => ?_⟩
  have place : s.frt.place? n s.ptl.pass ((s.remap n.bank).isSource n.row) = some (i, r) := by
    obtain ⟨known, slot⟩ | ⟨unknown, ⟨empty, lower⟩ | ⟨full, evicted⟩, rfl⟩ := found
    · simp [FaultTable.place?, known, slot]
    · simp [FaultTable.place?, unknown, FaultTable.lowestEmpty?_eq_some_iff.mpr ⟨empty, lower⟩]
      rfl
    · simp [FaultTable.place?, unknown, FaultTable.lowestEmpty?_eq_none_iff.mpr full, evicted]
      rfl
  have table : (receiveNotice n s).frt = s.frt.countIn i r n s.ptl.pass s.hpt.threshold := by
    simp [receiveNotice_of_place live used place]
  have slots (j : Fin 32) : (receiveNotice n s).frt.slot j =
      if j = i then some (r.judged n s.ptl.pass s.hpt.threshold) else s.frt.slot j := by
    rw [table]
    exact s.frt.slot_countIn i r n _ _ j
  have queue := s.frt.queue_countIn i r n s.ptl.pass s.hpt.threshold
  rw [← table] at queue
  refine ⟨r.judged n s.ptl.pass s.hpt.threshold, (slots i).trans (if_pos rfl),
    fun j other => (slots j).trans (if_neg other), rfl, correctable_judged .., uncorrectable_judged ..,
    ⟨fun earned => ?_, fun unearned => ?_⟩, ?_⟩
  · have promoted := promoted_count_iff.mpr earned
    exact ⟨if_pos promoted, queue.trans (if_pos promoted)⟩
  · have stays := mt promoted_count_iff.mp unearned
    exact ⟨if_neg stays, queue.trans (if_neg stays)⟩
  · rw [receiveNotice_of_place live used place]
    simp [keepsAllBut_iff]

/-! ### Eviction (R126, R127) -/

/-- Among the listed slots, `best` is the WATCH record that goes first, or there is none. -/
def FaultTable.Quietest (f : FaultTable) (now : BitVec 16) (l : List (Fin 32)) :
    Option (Fin 32 × FaultRecord) → Prop
  | none => ∀ j ∈ l, ∀ q, f.slot j = some q → q.state ≠ .watch
  | some (i, r) => i ∈ l ∧ f.slot i = some r ∧ r.state = .watch ∧
      ∀ j ∈ l, ∀ q, f.slot j = some q → q.state = .watch → j ≠ i → evictsRather now i j r q

theorem evictsRather.trans {now : BitVec 16} {i j k : Fin 32} {p q r : FaultRecord}
    (first : evictsRather now i j p q) (second : evictsRather now j k q r) : evictsRather now i k p r := by
  unfold evictsRather at *
  grind

theorem evictsRather.asymm {now : BitVec 16} {i j : Fin 32} {r q : FaultRecord}
    (first : evictsRather now i j r q) : ¬evictsRather now j i q r := by
  unfold evictsRather at *
  grind

/-- Of two slots, the one considered later goes first exactly if it goes before the other (R126). -/
theorem evictsRather_of_evictedBefore {now : BitVec 16} {i j : Fin 32} {r q : FaultRecord}
    (before : r.evictedBefore now q = true) : evictsRather now i j r q := by
  simp only [FaultRecord.evictedBefore, Bool.or_eq_true, Bool.and_eq_true, decide_eq_true_eq, beq_iff_eq] at before
  exact before.imp_right fun ⟨count, age⟩ => ⟨count, .inl age⟩

theorem evictsRather_of_not_evictedBefore {now : BitVec 16} {i j : Fin 32} {r q : FaultRecord}
    (lower : j < i) (before : ¬r.evictedBefore now q = true) : evictsRather now j i q r := by
  simp only [FaultRecord.evictedBefore, Bool.or_eq_true, Bool.and_eq_true, decide_eq_true_eq, beq_iff_eq] at before
  unfold evictsRather
  grind

section Quietest

variable {f : FaultTable} {now : BitVec 16} {l : List (Fin 32)} {i : Fin 32}

/-- A slot without a WATCH record makes no difference to the choice (R126). -/
theorem FaultTable.Quietest.skip {best : Option (Fin 32 × FaultRecord)} (chosen : f.Quietest now l best)
    (quiet : ∀ q, f.slot i = some q → q.state ≠ .watch) : f.Quietest now (l ++ [i]) best := by
  cases best with
  | none =>
    intro j member q slot
    obtain earlier | rfl := by simpa using member
    · exact chosen j earlier q slot
    · exact quiet q slot
  | some b =>
    obtain ⟨member, slot, watch, first⟩ := chosen
    refine ⟨by simp [member], slot, watch, fun j listed q found watching other => ?_⟩
    obtain earlier | rfl := by simpa using listed
    · exact first j earlier q found watching other
    · exact absurd watching (quiet q found)

/-- A WATCH record that goes before the choice so far is chosen, and so is the first one (R126). -/
theorem FaultTable.Quietest.replace {best : Option (Fin 32 × FaultRecord)} {r : FaultRecord}
    (chosen : f.Quietest now l best) (slot : f.slot i = some r) (watch : r.state = .watch)
    (before : ∀ j q, best = some (j, q) → r.evictedBefore now q = true) :
    f.Quietest now (l ++ [i]) (some (i, r)) := by
  refine ⟨by simp, slot, watch, fun k listed p found watching other => ?_⟩
  obtain earlier | rfl := by simpa using listed
  · cases best with
    | none => exact absurd watching (chosen k earlier p found)
    | some b =>
      obtain ⟨j, q⟩ := b
      obtain ⟨-, held, -, first⟩ := chosen
      have goes : evictsRather now i j r q := evictsRather_of_evictedBefore (before j q rfl)
      by_cases same : k = j
      · subst same
        rwa [Option.some.inj (found.symm.trans held)]
      · exact goes.trans (first k earlier p found watching same)
  · exact absurd rfl other

/-- A WATCH record that does not go before the choice so far leaves it (R126). -/
theorem FaultTable.Quietest.stay {j : Fin 32} {r q : FaultRecord} (chosen : f.Quietest now l (some (j, q)))
    (later : ∀ k ∈ l, k < i) (slot : f.slot i = some r) (before : ¬r.evictedBefore now q = true) :
    f.Quietest now (l ++ [i]) (some (j, q)) := by
  obtain ⟨member, held, watch, first⟩ := chosen
  refine ⟨by simp [member], held, watch, fun k listed p found watching other => ?_⟩
  obtain earlier | rfl := by simpa using listed
  · exact first k earlier p found watching other
  · rw [Option.some.inj (found.symm.trans slot)]
    exact evictsRather_of_not_evictedBefore (later j member) before

/-- The choice so far stays the right one when the next slot is considered (R126). -/
theorem FaultTable.Quietest.consider {best : Option (Fin 32 × FaultRecord)} (chosen : f.Quietest now l best)
    (later : ∀ k ∈ l, k < i) : f.Quietest now (l ++ [i]) (f.considerEviction now best i) := by
  unfold FaultTable.considerEviction
  cases slot : f.slot i with
  | none => exact chosen.skip (by simp [slot])
  | some r =>
    dsimp only
    split
    · rename_i watch
      cases best with
      | none => exact chosen.replace slot watch nofun
      | some b =>
        dsimp only
        split
        · rename_i before
          refine chosen.replace slot watch fun j q same => ?_
          cases same
          exact before
        · rename_i before
          exact chosen.stay later slot before
    · rename_i other
      refine chosen.skip fun q found => ?_
      rwa [← Option.some.inj (slot.symm.trans found)]

end Quietest

/-- The choice over a list of slots in rising order is the right one (R126). -/
theorem quietest_foldl (f : FaultTable) (now : BitVec 16) {l : List (Fin 32)} (rising : l.Pairwise (· < ·)) :
    f.Quietest now l (l.foldl (f.considerEviction now) none) := by
  induction l using List.reverseRecOn with
  | nil => exact fun _ member => absurd member List.not_mem_nil
  | append_singleton l i ih =>
    obtain ⟨before, -, later⟩ := List.pairwise_append.mp rising
    rw [List.foldl_append]
    exact (ih before).consider fun k member => later k member i (by simp)

/-- The eviction slot holds the WATCH record that goes before every other one, and there is none exactly
where no record is WATCH (R126). -/
theorem evictionSlot?_cases (f : FaultTable) (now : BitVec 16) :
    (f.evictionSlot? now = none ∧ ∀ j q, f.slot j = some q → q.state ≠ .watch) ∨
    ∃ i r, f.evictionSlot? now = some i ∧ f.slot i = some r ∧ r.state = .watch ∧
      ∀ j q, f.slot j = some q → q.state = .watch → j ≠ i → evictsRather now i j r q := by
  have chosen := quietest_foldl f now (List.pairwise_lt_finRange 32)
  rw [FaultTable.evictionSlot?]
  generalize (List.finRange 32).foldl (f.considerEviction now) none = best at chosen
  cases best with
  | none => exact .inl ⟨rfl, fun j => chosen j (List.mem_finRange j)⟩
  | some b =>
    obtain ⟨-, slot, watch, first⟩ := chosen
    exact .inr ⟨b.1, b.2, rfl, slot, watch, fun j => first j (List.mem_finRange j)⟩

theorem evictionSlot?_eq_some_iff {f : FaultTable} {now : BitVec 16} {i : Fin 32} :
    f.evictionSlot? now = some i ↔ ∃ r, f.slot i = some r ∧ r.state = .watch ∧
      ∀ (j : Fin 32) (q : FaultRecord), f.slot j = some q → q.state = .watch → j ≠ i → evictsRather now i j r q := by
  obtain ⟨none, unwatched⟩ | ⟨k, q, found, slot, watch, first⟩ := evictionSlot?_cases f now
  · rw [none]
    exact ⟨nofun, fun ⟨r, slot, watch, _⟩ => absurd watch (unwatched i r slot)⟩
  · rw [found]
    constructor
    · rintro ⟨⟩
      exact ⟨q, slot, watch, first⟩
    · rintro ⟨r, held, watching, goes⟩
      by_contra other
      have apart : i ≠ k := fun same => other (congrArg some same.symm)
      exact (first i r held watching apart).asymm (goes k q slot watch apart.symm)

/-- Settles O50. -/
theorem evictionTakesTheQuietestWatch : Obligations.EvictionTakesTheQuietestWatch := by
  refine ⟨fun f now i => evictionSlot?_eq_some_iff, fun n s live used unknown full unwatched => ?_,
    fun n s i live used unknown full evicted => ?_⟩
  · have none : s.frt.evictionSlot? s.ptl.pass = none := by
      obtain ⟨none, -⟩ | ⟨k, q, -, slot, watch, -⟩ := evictionSlot?_cases s.frt s.ptl.pass
      · exact none
      · exact absurd watch (unwatched k q slot)
    have place : s.frt.place? n s.ptl.pass ((s.remap n.bank).isSource n.row) = Option.none := by
      simp [FaultTable.place?, unknown, FaultTable.lowestEmpty?_eq_none_iff.mpr full, none]
    rw [receiveNotice_of_no_place live used place]
    exact ⟨rfl, by simp [keepsAllBut_iff]⟩
  · let r := newRecord n s.ptl.pass ((s.remap n.bank).isSource n.row)
    have place : s.frt.place? n s.ptl.pass ((s.remap n.bank).isSource n.row) = some (i, r) := by
      simp [FaultTable.place?, unknown, FaultTable.lowestEmpty?_eq_none_iff.mpr full, evicted, r]
    have slots (j : Fin 32) : (receiveNotice n s).frt.slot j =
        if j = i then some (r.judged n s.ptl.pass s.hpt.threshold) else s.frt.slot j := by
      rw [receiveNotice_of_place live used place, State.setFrt_frt]
      exact s.frt.slot_countIn i r n _ _ j
    refine ⟨_, (slots i).trans (if_pos rfl), rfl, rfl, ?_, fun j other => (slots j).trans (if_neg other), ?_⟩
    · rw [correctable_judged, uncorrectable_judged]
      cases n.uncorrectable <;> rfl
    · rw [receiveNotice_of_place live used place]
      simp [keepsAllBut_iff]

/-! ### Decay and reports (R131, R190) -/

theorem sub_eq_iff_add_eq {a b k : BitVec 16} : a = b - k ↔ a + k = b := by
  constructor <;> intro h <;> bv_omega

/-- What decay does to one record (R131). -/
theorem slot_decay (f : FaultTable) (now : BitVec 16) {i : Fin 32} {r : FaultRecord} (slot : f.slot i = some r) :
    (f.decay now).slot i =
      if r.state = .watch ∧ r.lastPass + 1 ≠ now ∧ r.lastPass + 2 ≠ now then none else some r := by
  simp only [FaultTable.decay, FaultTable.slot_keep, slot, ne_eq, ← sub_eq_iff_add_eq]
  by_cases watch : r.state = .watch <;> by_cases last : r.lastPass = now - 1#16 <;>
    by_cases previous : r.lastPass = now - 2#16 <;> simp [watch, last, previous, Option.filter]

/-- Settles O51. -/
theorem decayAndReports : Obligations.DecayAndReports := by
  refine ⟨fun f now i r => slot_decay f now, fun f now i empty => ?_, fun s inv now => ?_, fun r s room => ?_,
    fun r s full => ?_, fun n s bad => if_pos bad, fun n s good => if_neg (by simp [good])⟩
  · simp [FaultTable.decay, FaultTable.slot_keep, empty]
  · refine List.filter_eq_self.mpr fun i queued => ?_
    obtain ⟨r, slot, candidate⟩ := (inv.exact i).mp queued
    simp [slot, candidate]
  · rw [receiveReport, if_pos room]
    exact ⟨rfl, by simp [keepsAllBut_iff]⟩
  · rw [receiveReport, if_neg (by omega)]
    exact ⟨rfl, rfl, by simp [keepsAllBut_iff]⟩

end Sys2Proof.Machine
end

section
/-! Translation, roles and the power-on load: O48, O10. -/

namespace Sys2Proof.Machine

/-! ### Physical rows (R1) -/

@[simp] theorem regular?_regular (l : LogicalRow) : l.regular.regular? = some l := dif_pos l.isLt

@[simp] theorem regular?_physical (i : SpareIdx) : i.physical.regular? = none :=
  dif_neg (by simp [SpareIdx.physical])

@[simp] theorem spare?_regular (l : LogicalRow) : l.regular.spare? = none :=
  dif_neg (by simp [LogicalRow.regular])

@[simp] theorem spare?_physical (i : SpareIdx) : i.physical.spare? = some i := by
  simp [PhysRow.spare?, SpareIdx.physical]

@[simp] theorem isSpareRow_regular (l : LogicalRow) : isSpareRow l.regular = false := by simp [isSpareRow]

@[simp] theorem isSpareRow_physical (i : SpareIdx) : isSpareRow i.physical = true := by simp [isSpareRow]

@[simp] theorem regular_inj {l k : LogicalRow} : l.regular = k.regular ↔ l = k :=
  ⟨fun same => Option.some.inj (by rw [← regular?_regular l, same, regular?_regular]), congrArg _⟩

@[simp] theorem physical_inj {i j : SpareIdx} : i.physical = j.physical ↔ i = j :=
  ⟨fun same => Option.some.inj (by rw [← spare?_physical i, same, spare?_physical]), congrArg _⟩

@[simp] theorem regular_ne_physical (l : LogicalRow) (i : SpareIdx) : l.regular ≠ i.physical := fun same => by
  simpa using congrArg PhysRow.regular? same

/-- A physical row is a regular row or a spare (R1). -/
theorem regular_or_physical (p : PhysRow) : (∃ l : LogicalRow, p = l.regular) ∨ ∃ i : SpareIdx, p = i.physical := by
  by_cases small : p.val < 8192
  · exact .inl ⟨⟨p.val, small⟩, rfl⟩
  · exact .inr ⟨⟨p.val - 8192, by omega⟩, Fin.ext (by simp [SpareIdx.physical]; omega)⟩

/-! ### Translation (R84 to R86) -/

namespace BankRemap

variable {m : BankRemap} {l : LogicalRow} {n : LineNo}

theorem translate_of_none (none : m.entry? l = none) : m.translate l n = ⟨l.regular, .none⟩ := by
  simp [translate, none]

theorem translate_of_entry {e : RemapEntry} (entry : m.entry? l = some e) :
    m.translate l n = ⟨e.source, e.targetBelow n⟩ := by
  simp [translate, entry]

/-- The read row of a translation is a regular row exactly where no entry shadows it (Table 5-3). -/
theorem translate_source_regular {k : LogicalRow} :
    (m.translate l n).source = k.regular ↔ l = k ∧ m.shadowed k = false := by
  cases entry : m.entry? l with
  | none =>
    rw [translate_of_none entry]
    constructor
    · intro same
      obtain rfl := regular_inj.mp same
      simp [shadowed, entry]
    · rintro ⟨rfl, -⟩
      rfl
  | some e =>
    have row := row_of_entry? entry
    rw [translate_of_entry entry]
    cases current : e.current with
    | none =>
      simp only [RemapEntry.source, current, row, regular_inj]
      constructor
      · rintro rfl
        simp [shadowed, entry, current]
      · exact And.left
    | some c =>
      simp only [RemapEntry.source, current]
      refine iff_of_false (Ne.symm (regular_ne_physical k c)) ?_
      rintro ⟨rfl, open_⟩
      simp [shadowed, entry, current] at open_

/-- The read row of a translation is a spare exactly where that is the current one of the row's entry. -/
theorem translate_source_physical {i : SpareIdx} :
    (m.translate l n).source = i.physical ↔ ∃ e, m.entry? l = some e ∧ e.current = some i := by
  cases entry : m.entry? l with
  | none =>
    rw [translate_of_none entry]
    simp
  | some e =>
    rw [translate_of_entry entry]
    cases current : e.current <;> simp [RemapEntry.source, current]

end BankRemap

/-- The entry that holds an IN_USE spare is the one that the search by spare finds (R81, R87). -/
theorem BankRemap.Agrees.ofSpare? {m : BankRemap} (h : m.Agrees) {e : RemapEntry} (member : e ∈ m.entries) {i : SpareIdx}
    (current : e.current = some i) : m.ofSpare? i = some e := by
  cases found : m.ofSpare? i with
  | none => simpa [current] using List.find?_eq_none.mp found e member
  | some d =>
    have holds : d.current = some i := by simpa using List.find?_some found
    rw [h.eq_of_spare (List.mem_of_find?_eq_some found) member (i := i) (by simp [RemapEntry.spares, holds])
      (by simp [RemapEntry.spares, current])]

/-- A physical row is in use and holds a row exactly if it is the row's read row (R87). -/
theorem inUse_iff_translate {m : BankRemap} (h : m.Agrees) (p : PhysRow) (l : LogicalRow) (n : LineNo) :
    (m.inUse p = true ∧ m.logicalOf p = l) ↔ (m.translate l n).source = p := by
  obtain ⟨k, rfl⟩ | ⟨i, rfl⟩ := regular_or_physical p
  · rw [BankRemap.translate_source_regular]
    simp only [BankRemap.inUse, BankRemap.logicalOf, regular?_regular, Bool.not_eq_true']
    exact ⟨fun ⟨open_, row⟩ => ⟨row.symm, open_⟩, fun ⟨row, open_⟩ => ⟨open_, row.symm⟩⟩
  · rw [BankRemap.translate_source_physical]
    simp only [BankRemap.inUse, BankRemap.logicalOf, regular?_physical, spare?_physical, beq_iff_eq, h.inUse]
    constructor
    · rintro ⟨⟨e, member, current⟩, rfl⟩
      rw [h.ofSpare? member current]
      exact ⟨e, BankRemap.entry?_of_mem h.rows member, current⟩
    · rintro ⟨e, entry, current⟩
      have member := BankRemap.mem_of_entry? entry
      exact ⟨⟨e, member, current⟩, by simp [h.ofSpare? member current, BankRemap.row_of_entry? entry]⟩

theorem targetBelow_of_active {e : RemapEntry} (active : e.isPending = false) (n : LineNo) :
    e.targetBelow n = none := by
  obtain ⟨row, c | ⟨c, t, u, r⟩, o⟩ := e
  · rfl
  · cases active

/-- A scrub of a row's read row receives the rows of its translation (R87). -/
theorem scrubRows_translate {m : BankRemap} (h : m.Agrees)
    (one : ∀ e ∈ m.entries, ∀ e' ∈ m.entries, e.isPending = true → e'.isPending = true → e = e')
    (l : LogicalRow) (n : LineNo) : m.scrubRows (m.translate l n).source n = m.translate l n := by
  have calm (rests : ∀ e, m.entry? l = some e → e.isPending = false) :
      (⟨(m.translate l n).source, none⟩ : Rows) = m.translate l n := by
    cases entry : m.entry? l with
    | none => rw [BankRemap.translate_of_none entry]
    | some e => rw [BankRemap.translate_of_entry entry, targetBelow_of_active (rests e entry)]
  unfold BankRemap.scrubRows
  cases pending : m.pending? with
  | none => exact calm fun e entry => BankRemap.pending?_eq_none_iff.mp pending e (BankRemap.mem_of_entry? entry)
  | some e =>
    have member := List.mem_of_find?_eq_some pending
    have pends : e.isPending = true := List.find?_some pending
    have entry := BankRemap.entry?_of_mem h.rows member
    have own : (m.translate e.row n).source = e.source := by rw [BankRemap.translate_of_entry entry]
    dsimp only
    split
    · rename_i same
      have row : l = e.row := by
        rw [← ((inUse_iff_translate h _ l n).mpr rfl).2, ← same]
        exact ((inUse_iff_translate h _ e.row n).mpr own).2
      rw [row, BankRemap.translate_of_entry entry]
    · rename_i other
      refine calm fun d found => ?_
      by_contra pending
      have same := one d (BankRemap.mem_of_entry? found) e member (by simpa using pending) pends
      rw [BankRemap.translate_of_entry found, same] at other
      exact other rfl

/-- Settles O48. -/
theorem translationAndRoles : Obligations.TranslationAndRoles := by
  refine ⟨fun m l n => ⟨fun none => ?_, fun c o entry => ?_, fun x k r o entry => ?_, fun c x k r o entry => ?_⟩,
    fun m h => ⟨inUse_iff_translate h, fun one => scrubRows_translate h one⟩⟩
  · rw [BankRemap.translate_of_none none]
    simp [Rows.fromSpareRead, Rows.fromSpareWrite]
  · rw [BankRemap.translate_of_entry entry]
    simp [Rows.fromSpareRead, Rows.fromSpareWrite, RemapEntry.source, RemapEntry.targetBelow]
  · rw [BankRemap.translate_of_entry entry]
    refine ⟨fun below => ?_, fun above => ?_⟩
    · simp [Rows.fromSpareRead, Rows.fromSpareWrite, RemapEntry.source, RemapEntry.targetBelow, below]
    · simp [Rows.fromSpareRead, Rows.fromSpareWrite, RemapEntry.source, RemapEntry.targetBelow, not_lt.mpr above]
  · rw [BankRemap.translate_of_entry entry]
    simp [Rows.fromSpareRead, Rows.fromSpareWrite, RemapEntry.source, RemapEntry.targetBelow]

/-! ### The power-on load (R160 to R162) -/

/-- The turn of one slot of the power-on load at one bank (R160, R161). -/
def loadTurn (b : Bank) (m : BankRemap) : StoreSlot → BankRemap
  | .written c l i => if c = b then m.load l i else m
  | .blank => m
  | .bad => m

theorem loadSlot_remap (s : State) (v : StoreSlot) (b : Bank) : (loadSlot s v).remap b = loadTurn b (s.remap b) v := by
  cases v with
  | blank => rfl
  | bad => rfl
  | written c l i =>
    by_cases same : c = b
    · subst same
      simp [loadSlot, loadTurn]
    · simp [loadSlot, loadTurn, same, State.remap_setRemap_ne _ _ (Ne.symm same)]

theorem loadStore_remap (s : State) (b : Bank) :
    (loadStore s).remap b = s.rps.slots.toList.foldl (loadTurn b) (s.remap b) := by
  have turns (l : List StoreSlot) (t : State) : (l.foldl loadSlot t).remap b = l.foldl (loadTurn b) (t.remap b) := by
    induction l generalizing t with
    | nil => rfl
    | cons v l ih => rw [List.foldl_cons, List.foldl_cons, ih, loadSlot_remap]
  exact turns _ s

theorem loadStore_select (s : State) : (loadStore s).rmp.selectBank = s.rmp.selectBank ∧
    (loadStore s).rmp.selectRow = s.rmp.selectRow := by
  refine List.foldlRecOn (motive := fun t => t.rmp.selectBank = s.rmp.selectBank ∧
    t.rmp.selectRow = s.rmp.selectRow) s.rps.slots.toList loadSlot ⟨rfl, rfl⟩ fun t kept v _ => ?_
  cases v <;> exact kept

/-- A bank's table after the turns of the first `k` slots. -/
def loadedTo (p : RepairStore) (b : Bank) (k : Nat) : BankRemap :=
  (p.slots.toList.take k).foldl (loadTurn b) .initial

theorem loadedTo_succ (p : RepairStore) (b : Bank) (i : Fin 48) :
    loadedTo p b (i.val + 1) = loadTurn b (loadedTo p b i.val) (p.slot i) := by
  have slot : p.slots.toList.take (i.val + 1) = p.slots.toList.take i.val ++ [p.slot i] := by
    rw [← List.take_concat_get' _ _ (by simp)]
    simp [RepairStore.slot]
  rw [loadedTo, slot, List.foldl_append]
  rfl

theorem loadedTo_all (p : RepairStore) (b : Bank) :
    loadedTo p b 48 = p.slots.toList.foldl (loadTurn b) .initial := by
  rw [loadedTo, List.take_of_length_le (by simp)]

/-- The slots below `k` that the load takes for a row, the last of them being `i` (R162). -/
def lastLoadedBelow (p : RepairStore) (k : Nat) (i : Fin 48) (b : Bank) (l : LogicalRow) (x : SpareIdx) : Prop :=
  i.val < k ∧ loadsSlot p i b l x ∧ ∀ (j : Fin 48) (y : SpareIdx), i < j → j.val < k → ¬loadsSlot p j b l y

theorem lastLoadedBelow_all {p : RepairStore} {i : Fin 48} {b : Bank} {l : LogicalRow} {x : SpareIdx} :
    lastLoadedBelow p 48 i b l x ↔ lastLoaded p i b l x :=
  ⟨fun ⟨_, loads, last⟩ => ⟨loads, fun j y above => last j y above j.isLt⟩,
    fun ⟨loads, last⟩ => ⟨i.isLt, loads, fun j y above _ => last j y above⟩⟩

/-- No two WRITTEN slots name a spare of a bank for two rows (R151). -/
def RepairStore.namesOneRow (p : RepairStore) : Prop :=
  ∀ (i j : Fin 48) (b : Bank) (l k : LogicalRow) (x : SpareIdx),
    p.slot i = .written b l x → p.slot j = .written b k x → l = k

/-- What a bank's table holds after the turns of the first `k` slots (R161, R162). -/
structure LoadedTo (p : RepairStore) (b : Bank) (k : Nat) (m : BankRemap) : Prop where
  agrees : m.Agrees
  entry : ∀ l e, m.entry? l = some e → ∃ i x, e = ⟨l, .active x, .persistent⟩ ∧ lastLoadedBelow p k i b l x
  rows : ∀ i : Fin 48, i.val < k → ∀ l x, p.slot i = .written b l x → m.entry? l ≠ none
  free : ∀ x, m.spare x = .free ↔ ∀ i : Fin 48, i.val < k → ∀ l, p.slot i ≠ .written b l x

theorem loadedTo_zero (p : RepairStore) (b : Bank) : LoadedTo p b 0 (loadedTo p b 0) where
  agrees := BankRemap.initial_agrees
  entry _ _ found := nomatch found
  rows i below := absurd below (Nat.not_lt_zero i.val)
  free x := iff_of_true (by simp [loadedTo, BankRemap.initial, BankRemap.spare])
    fun i below => absurd below (Nat.not_lt_zero i.val)

theorem forall_lt_succ {n : Fin 48} {P : Fin 48 → Prop} :
    (∀ i : Fin 48, i.val < n.val + 1 → P i) ↔ (∀ i : Fin 48, i.val < n.val → P i) ∧ P n := by
  constructor
  · exact fun all => ⟨fun i below => all i (by omega), all n (by omega)⟩
  · rintro ⟨below, last⟩ i bound
    obtain lower | same := Nat.lt_succ_iff_lt_or_eq.mp bound
    · exact below i lower
    · exact Fin.ext same ▸ last

/-- A slot that the load does not take makes no difference to which is the last one. -/
theorem lastLoadedBelow.succ {p : RepairStore} {n i : Fin 48} {b : Bank} {l : LogicalRow} {x : SpareIdx}
    (last : lastLoadedBelow p n.val i b l x) (skipped : ∀ y, ¬loadsSlot p n b l y) :
    lastLoadedBelow p (n.val + 1) i b l x := by
  obtain ⟨below, loads, later⟩ := last
  refine ⟨by omega, loads, fun j y above bound => ?_⟩
  by_cases same : j = n
  · exact same ▸ skipped y
  · exact later j y above (by omega)

namespace LoadedTo

variable {p : RepairStore} {b : Bank} {n : Fin 48} {m : BankRemap}

/-- A slot of another bank, or one that is not WRITTEN, is passed over (R160). -/
theorem other (h : LoadedTo p b n.val m) (elsewhere : ∀ l x, p.slot n ≠ .written b l x) :
    LoadedTo p b (n.val + 1) m where
  agrees := h.agrees
  entry l e found := by
    obtain ⟨i, x, active, last⟩ := h.entry l e found
    exact ⟨i, x, active, last.succ fun y loads => elsewhere l y loads.1⟩
  rows := forall_lt_succ.mpr ⟨h.rows, fun l x named => absurd named (elsewhere l x)⟩
  free x := by
    rw [h.free, forall_lt_succ]
    exact (and_iff_left fun l => elsewhere l x).symm

variable {l : LogicalRow} {x : SpareIdx} (named : p.slot n = .written b l x)
include named

/-- The slot is taken exactly if no lower one names its spare, which then is FREE (R161). -/
theorem loads_iff_free (h : LoadedTo p b n.val m)
    (one : p.namesOneRow) :
    loadsSlot p n b l x ↔ m.spare x = .free := by
  rw [h.free]
  refine ⟨fun ⟨_, first⟩ i below k names => ?_, fun unnamed => ⟨named, fun j below => unnamed j below l⟩⟩
  exact first i below (one i n b k l x names named ▸ names)

/-- The slot names no other row and no other spare. -/
theorem of_named {k : LogicalRow} {y : SpareIdx} (names : p.slot n = .written b k y) : k = l ∧ y = x := by
  rw [named] at names
  cases names
  exact ⟨rfl, rfl⟩

/-- A slot whose spare is not FREE is skipped: a lower one named that spare for the same row (R161). -/
theorem skip (h : LoadedTo p b n.val m)
    (one : p.namesOneRow) (taken : m.spare x ≠ .free) : LoadedTo p b (n.val + 1) m where
  agrees := h.agrees
  entry k e found := by
    obtain ⟨i, y, active, last⟩ := h.entry k e found
    refine ⟨i, y, active, last.succ fun z loads => ?_⟩
    obtain ⟨rfl, rfl⟩ := of_named named loads.1
    exact taken ((loads_iff_free named h one).mp loads)
  rows := by
    refine forall_lt_succ.mpr ⟨h.rows, fun k y names => ?_⟩
    obtain ⟨rfl, rfl⟩ := of_named named names
    have lower := mt (h.free y).mpr taken
    push Not at lower
    obtain ⟨i, below, k', held⟩ := lower
    exact h.rows i below k y (one i n b k' k y held named ▸ held)
  free y := by
    rw [h.free, forall_lt_succ, iff_self_and]
    intro unnamed k names
    obtain ⟨rfl, rfl⟩ := of_named named names
    exact taken ((h.free y).mpr unnamed)

/-- A slot whose spare is FREE gives its row that spare; one that the row held before is RETIRED (R161). -/
theorem load (h : LoadedTo p b n.val m)
    (one : p.namesOneRow) (free : m.spare x = .free) : LoadedTo p b (n.val + 1) (m.load l x) where
  agrees := h.agrees.load x fun e found => by
    obtain ⟨i, y, rfl, -⟩ := h.entry l e found
    rfl
  entry k e found := by
    rw [BankRemap.entry?_load free] at found
    split at found
    · rename_i same
      cases found
      exact ⟨n, x, same ▸ rfl, Nat.lt_succ_self _, same ▸ (loads_iff_free named h one).mpr free,
        fun j y above bound => absurd bound (by omega)⟩
    · rename_i other
      obtain ⟨i, y, active, last⟩ := h.entry k e found
      exact ⟨i, y, active, last.succ fun z loads => other (of_named named loads.1).1⟩
  rows := by
    refine forall_lt_succ.mpr ⟨fun i below k y names => ?_, fun k y names => ?_⟩ <;>
      rw [BankRemap.entry?_load free]
    · split
      · simp
      · exact h.rows i below k y names
    · rw [if_pos (of_named named names).1]
      simp
  free y := by
    rw [BankRemap.spare_load free, forall_lt_succ]
    by_cases same : y = x
    · subst same
      rw [if_pos rfl]
      exact iff_of_false (by simp) fun unnamed => unnamed.2 l named
    · rw [if_neg same]
      have unnamed (k : LogicalRow) : p.slot n ≠ .written b k y := fun names => same (of_named named names).2
      split
      · rename_i held
        obtain ⟨e, found, current⟩ := Option.bind_eq_some_iff.mp held
        obtain ⟨i, z, rfl, below, loads, -⟩ := h.entry l e found
        cases current
        exact iff_of_false (by simp) fun none => none.1 i below l loads.1
      · rw [h.free, and_iff_left unnamed]

end LoadedTo

/-- After the turns of any number of slots the bank's table is as R161 and R162 say. -/
theorem loadedTo_loadedTo {p : RepairStore} (one : p.namesOneRow) (b : Bank) {k : Nat} (bound : k ≤ 48) :
    LoadedTo p b k (loadedTo p b k) := by
  induction k with
  | zero => exact loadedTo_zero p b
  | succ k ih =>
    let n : Fin 48 := ⟨k, bound⟩
    have h : LoadedTo p b n.val (loadedTo p b n.val) := ih (by omega)
    have turn := loadedTo_succ p b n
    show LoadedTo p b (n.val + 1) (loadedTo p b (n.val + 1))
    rw [turn]
    cases slot : p.slot n with
    | blank => exact h.other (by simp [slot])
    | bad => exact h.other (by simp [slot])
    | written c l x =>
      by_cases same : c = b
      · subst same
        rw [loadTurn, if_pos rfl]
        by_cases free : (loadedTo p c n.val).spare x = .free
        · exact h.load slot one free
        · rw [BankRemap.load, if_neg free]
          exact h.skip slot one free
      · rw [loadTurn, if_neg same]
        exact h.other (by simp [slot, same])

/-- The turn of a slot on a table without PENDING entries (R161). -/
theorem load_turn {m : BankRemap} {l : LogicalRow} {i : SpareIdx} (h : m.Agrees)
    (calm : ∀ e ∈ m.entries, e.isPending = false) (free : m.spare i = .free) :
    (m.load l i).Agrees ∧ ∀ e ∈ (m.load l i).entries, e.isPending = false := by
  have agrees := h.load (l := l) i fun e found => calm e (BankRemap.mem_of_entry? found)
  refine ⟨agrees, fun e member => ?_⟩
  have entry := BankRemap.entry?_of_mem agrees.rows member
  rw [BankRemap.entry?_load free] at entry
  split at entry
  · cases entry
    rfl
  · exact calm e (BankRemap.mem_of_entry? entry)

/-- The last slot that the load takes for a row is one (R162). -/
theorem lastLoaded_unique {p : RepairStore} {i j : Fin 48} {b : Bank} {l : LogicalRow} {x y : SpareIdx}
    (last : lastLoaded p i b l x) (other : lastLoaded p j b l y) : i = j := by
  obtain above | same | below := lt_trichotomy i j
  · exact absurd other.1 (last.2 j y above)
  · exact same
  · exact absurd last.1 (other.2 i x below)

/-- Two slots that the load takes for one row and spare are one (R161). -/
theorem loadsSlot_unique {p : RepairStore} {i j : Fin 48} {b : Bank} {l : LogicalRow} {x : SpareIdx}
    (loads : loadsSlot p i b l x) (other : loadsSlot p j b l x) : i = j := by
  obtain above | same | below := lt_trichotomy i j
  · exact absurd loads.1 (other.2 i above)
  · exact same
  · exact absurd other.1 (loads.2 j below)

/-- Settles O10. -/
theorem powerOnLoadBuildsTheTable : Obligations.PowerOnLoadBuildsTheTable := by
  refine ⟨fun m l i h calm => ⟨fun taken => if_neg taken, fun free => ?_⟩,
    fun s powered released loading empty one => ?_⟩
  · obtain ⟨agrees, active⟩ := load_turn (l := l) h calm free
    have entry := BankRemap.entry?_load free l
    have spare := BankRemap.spare_load free l
    refine ⟨by rw [entry, if_pos rfl], by rw [spare, if_pos rfl], fun k other => by rw [entry, if_neg other],
      fun e c found current => ?_, fun j other unheld => ?_, agrees, active⟩
    · have apart : c ≠ i := by
        rintro rfl
        have used := (h.inUse c).mpr ⟨e, BankRemap.mem_of_entry? found, current⟩
        simp [free] at used
      rw [spare, if_neg apart, if_pos (by simp [found, current])]
    · rw [spare, if_neg other, if_neg]
      intro held
      obtain ⟨e, found, current⟩ := Option.bind_eq_some_iff.mp held
      exact unheld e found current
  · let t := (loadStore s).setHpt { s.hpt with state := .starting .arrayInit }
    have ends : after .loadingEnd s = t := if_pos (by simp [powered, released, loading])
    have loaded (b : Bank) : LoadedTo s.rps b 48 (t.remap b) := by
      have table : t.remap b = loadedTo s.rps b 48 := by
        rw [State.remap_setHpt, loadStore_remap, empty, loadedTo_all]
      exact table ▸ loadedTo_loadedTo one b le_rfl
    have entry (b : Bank) (l : LogicalRow) (e : RemapEntry) (found : (t.remap b).entry? l = some e) :
        ∃ i x, e = ⟨l, .active x, .persistent⟩ ∧ lastLoaded s.rps i b l x := by
      obtain ⟨i, x, active, last⟩ := (loaded b).entry l e found
      exact ⟨i, x, active, lastLoadedBelow_all.mp last⟩
    have last (i : Fin 48) (b : Bank) (l : LogicalRow) (x : SpareIdx) (last : lastLoaded s.rps i b l x) :
        (t.remap b).entry? l = some ⟨l, .active x, .persistent⟩ := by
      obtain ⟨e, found⟩ := Option.ne_none_iff_exists'.mp ((loaded b).rows i i.isLt l x last.1.1)
      obtain ⟨j, y, rfl, other⟩ := entry b l e found
      obtain rfl := lastLoaded_unique last other
      rw [found, (LoadedTo.of_named last.1.1 other.1.1).2]
    refine ⟨t, next_of_after ends, rfl, fun b => (loaded b).agrees, fun b e member => ?_, fun b l => ⟨?_, ?_⟩,
      fun i b l x lasts => ⟨last i b l x lasts, ?_⟩, fun i b l x loads superseded => ?_, fun b x unnamed => ?_,
      (loadStore_select s).1, (loadStore_select s).2, by simp [t, keepsAllBut_iff]⟩
    · obtain ⟨i, x, active, lasts⟩ := entry b e.row e (BankRemap.entry?_of_mem (loaded b).agrees.rows member)
      exact ⟨i, x, active, lasts.1.1⟩
    · rintro ⟨e, member, rfl⟩
      obtain ⟨i, x, -, lasts⟩ := entry b e.row e (BankRemap.entry?_of_mem (loaded b).agrees.rows member)
      exact ⟨i, x, lasts.1.1⟩
    · rintro ⟨i, x, names⟩
      obtain ⟨e, found⟩ := Option.ne_none_iff_exists'.mp ((loaded b).rows i i.isLt l x names)
      exact ⟨e, BankRemap.mem_of_entry? found, BankRemap.row_of_entry? found⟩
    · exact ((loaded b).agrees.inUse x).mpr ⟨_, BankRemap.mem_of_entry? (last i b l x lasts), rfl⟩
    · cases state : (t.remap b).spare x with
      | retired => rfl
      | free => exact absurd loads.1 (((loaded b).free x).mp state i i.isLt l)
      | target =>
        obtain ⟨e, member, target⟩ := ((loaded b).agrees.target x).mp state
        obtain ⟨j, y, active, -⟩ := entry b e.row e (BankRemap.entry?_of_mem (loaded b).agrees.rows member)
        rw [active] at target
        cases target
      | inUse =>
        obtain ⟨e, member, current⟩ := ((loaded b).agrees.inUse x).mp state
        obtain ⟨j, y, active, lasts⟩ := entry b e.row e (BankRemap.entry?_of_mem (loaded b).agrees.rows member)
        rw [active] at current
        obtain rfl := Option.some.inj current
        have row := one i j b l e.row y loads.1 lasts.1.1
        rw [← row] at lasts
        exact absurd (loadsSlot_unique loads lasts.1 ▸ lasts) superseded
    · exact ((loaded b).free x).mpr fun i _ l => unnamed i l

end Sys2Proof.Machine
end
